-- ==== Sys2Proof/Word.lean ====
section
/-! DEFINITION. The register word, the cell memory's type, and the binary32 constants the rules write as literals. -/

namespace Sys2Proof

/-- A 32-bit register word (00_scope.md R10). A binary32 register or cell holds the IEEE 754 encoding of its
value (20_memory.md R82), so `asF` and `bitsOf` of R13 are the identity here. -/
abbrev Word := BitVec 32

/-- The binary32 value 1.0 (43_voice_engine.md R240). -/
def one32 : Word := 0x3F800000#32

/-- The binary32 value 0.5. -/
def half32 : Word := 0x3F000000#32

/-- The binary32 value +0.0. -/
def zero32 : Word := 0x00000000#32

end Sys2Proof

namespace Sys2Proof.Machine

/-- A word-addressed memory of binary32 cells (20_memory.md R80: the spaces DL[v], COMB[i] and AP[j]), as the list
of its cells that do not hold the reset value, by rising index. -/
abbrev Memory := List (Nat × Word)

end Sys2Proof.Machine
end

