-- ==== Sys2Proof/Config.lean ====
section
/-! DEFINITION. The implementation parameters P1 to P25 of 00_scope.md R8, as one record of plain data, and the values
the spec leaves open, as constants without a body. -/

namespace Sys2Proof

/-- A waveform of the LFO bank (00_scope.md R8 P10). -/
inductive Waveform where
  | sine
  | triangle
  | sawtooth
deriving DecidableEq, Repr

/-- Which Tanh32 (00_scope.md R8 P23) a block has (log entry 6). -/
inductive TanhChoice where
  /-- Any function with the properties T1 to T5 of R18: nothing more is known of it. -/
  | free
  /-- The instance of the spec's vectors: f32(tanh(x)), computed. -/
  | rounded
deriving DecidableEq, Repr

/-- The parameters of one voice: P24 RESET_FREQ[v] and P25 SEED_RESET(v). -/
structure VoiceConfig where
  resetFreq : Word
  seedReset : Word
deriving DecidableEq, Repr

/-- The parameters of 00_scope.md R8 that a block is built with. P1 N_VOICES is the length of `voices`, P15 N_COMB and
P16 N_AP are the lengths of their lists, P4 DL_CAP is computed from P2 and P3, and P5 L_MIN, P9 N_LFO and
BRIGHT_MAX of P7 are fixed by R8 itself. -/
structure Config where
  /-- P1 (its length), P24, P25. -/
  voices : List VoiceConfig
  /-- P2, FS in Hz. -/
  fs : Nat
  /-- P3, F_MIN. -/
  fMin : Word
  /-- P6, DAMP_MIN. -/
  dampMin : Word
  /-- P6, DAMP_MAX. -/
  dampMax : Word
  /-- P7, BRIGHT_MIN. -/
  brightMin : Word
  /-- P8, NL_COEF. -/
  nlCoef : Word
  /-- P10, LFO_WAVE[0]. -/
  wave0 : Waveform
  /-- P10, LFO_WAVE[1]. -/
  wave1 : Waveform
  /-- P10, LFO_WAVE[2]. -/
  wave2 : Waveform
  /-- P11, LOG2_LUT. -/
  log2Lut : Nat
  /-- P12, SIN_LUT. -/
  sinLut : List Word
  /-- P13, HEADROOM. -/
  headroom : Word
  /-- P14, DC_K. -/
  dcK : Word
  /-- P15, COMB_LEN (N_COMB is its length). -/
  combLen : List Nat
  /-- P16, AP_LEN (N_AP is its length). -/
  apLen : List Nat
  /-- P17, AP_G. -/
  apG : Word
  /-- P18, REV_DAMP. -/
  revDamp : Word
  /-- P19, COMB_SCALE. -/
  combScale : Word
  /-- P20, REV_FB_MAX. -/
  revFbMax : Word
  /-- P21, DRIVE_MAX. -/
  driveMax : Word
  /-- P22, MAKEUP_MAX. -/
  makeupMax : Word
  /-- P23, Tanh32. -/
  tanh : TanhChoice
deriving DecidableEq, Repr

/-- P1, N_VOICES. -/
def Config.nVoices (c : Config) : Nat := c.voices.length

/-- The free function behind `TanhChoice.free`: magnitude bits to magnitude bits (log entry 6; 00_scope.md R18). -/
opaque Config.tanhFree : Nat → Nat

/-- Tanh32 at a positive infinity or a NaN with sign bit 0, which R18 leaves open; T4 gives the negative ones (log
entry 7). -/
opaque Config.tanhNonFinite : Word → Word

/-- The sign (bit 22) and the payload (bits 21:0) of a NaN that a binary32 operation on these two operands gives, which
IEEE 754-2008 leaves open (log entry 8; 00_scope.md R13). -/
opaque Config.nanChoice : Word → Word → BitVec 23

/-- CLK_HZ, OPEN: no rule depends on it (30_encoding.md R101; log entry 17). -/
opaque Config.clkHz : Nat

/-- KSM_BASE, OPEN: no rule depends on it (20_memory.md R89; log entry 17). -/
opaque Config.ksmBase : Nat

end Sys2Proof
end

