-- ==== Sys2Proof/Machine/Float.lean ====
section
/-! DEFINITION. IEEE 754 binary32 arithmetic on words, as 00_scope.md R13 to R16 give it: exact values first, one
rounding (roundTiesToEven) at the end, subnormals kept, no fused operation. A large numeral stands to the left of a factor or
summand that is not one: the kernel unfolds sums and products along their right argument. -/

namespace Sys2Proof.Machine

/-- The sign bit. -/
def signBit (w : Word) : Bool := w.msb

/-- The encoding without its sign: exponent and fraction, bits 30:0. -/
def magBits (w : Word) : Nat := w.toNat % 2 ^ 31

/-- The magnitude bits of an infinity: all above are NaNs, all below finite. -/
def infBits : Nat := 0x7F800000

def isNaN (w : Word) : Bool := infBits < magBits w

def isInf (w : Word) : Bool := magBits w == infBits

def isFinite (w : Word) : Bool := magBits w < infBits

/-- |w| in units of 2^-149, exactly. (An infinity gets the value its encoding would have one binade above the largest
finite one, which orders it above every finite value.) -/
def fixMag (w : Word) : Nat :=
  let m := magBits w
  if m / 2 ^ 23 = 0 then m else 2 ^ (m / 2 ^ 23 - 1) * (2 ^ 23 + m % 2 ^ 23)

/-- The value of w in units of 2^-149, exactly: both zeros give 0. -/
def toFix (w : Word) : Int := if signBit w then -(fixMag w : Int) else (fixMag w : Int)

/-- n / 2^k rounded to an integer, ties to even. -/
def roundShift (n k : Nat) : Nat :=
  let q := n / 2 ^ k
  let r := n % 2 ^ k
  if 2 ^ k < 2 * r ∨ (2 * r = 2 ^ k ∧ q % 2 = 1) then q + 1 else q

/-- The magnitude bits of `f32` (R13) of n * 2^-(149 + s): 24 significant bits, or down to 2^-149 where the value is
that small, rounded to nearest, ties to even, overflow to infinity. A carry out of the fraction moves into the
exponent by itself. -/
def roundMag (n s : Nat) : Nat :=
  let k := max s (Nat.log2 n - 23)
  min (roundShift n k + 2 ^ 23 * (k - s)) infBits

/-- The word with this sign and these magnitude bits. -/
def pack (neg : Bool) (m : Nat) : Word := BitVec.ofNat 32 (if neg then 2 ^ 31 + m else m)

/-- `f32` of the exact value z * 2^-149. Zero gives +0.0. -/
def ofFix (z : Int) : Word := pack (decide (z < 0)) (roundMag z.natAbs 0)

/-- The quiet NaN that an invalid operation or a NaN operand gives: its sign and payload are free (log entry 8). -/
def nanResult (a b : Word) : Word :=
  let c := Config.nanChoice a b
  BitVec.ofNat 32 ((if c.msb then 0xFFC00000 else 0x7FC00000) + c.toNat % 2 ^ 22)

/-- The operand with its sign reversed. -/
def neg32 (w : Word) : Word := pack (!signBit w) (magBits w)

/-- `add32` of R13. An exact zero sum is -0.0 only where both operands are negative. -/
def add32 (a b : Word) : Word :=
  if isNaN a || isNaN b then nanResult a b
  else if isInf a then (if isInf b && signBit a != signBit b then nanResult a b else a)
  else if isInf b then b
  else if toFix a + toFix b = 0 then pack (signBit a && signBit b) 0
  else ofFix (toFix a + toFix b)

/-- `sub32` of R13: a - b is a + (-b), signed zeros included. -/
def sub32 (a b : Word) : Word := add32 a (neg32 b)

/-- `mul32` of R13. -/
def mul32 (a b : Word) : Word :=
  let s := signBit a != signBit b
  if isNaN a || isNaN b then nanResult a b
  else if isInf a || isInf b then (if magBits a = 0 || magBits b = 0 then nanResult a b else pack s infBits)
  else pack s (roundMag (fixMag a * fixMag b) 149)

/-- a <= b on the values; false where either is a NaN. -/
def le32 (a b : Word) : Bool := !isNaN a && !isNaN b && decide (toFix a ≤ toFix b)

/-- `clampf` of R14: a NaN goes to the lower bound. -/
def clampf (x lo hi : Word) : Word :=
  if isNaN x || decide (toFix x ≤ toFix lo) then lo
  else if toFix hi ≤ toFix x then hi
  else x

/-- `clampi` of R14. -/
def clampi (n lo hi : Nat) : Nat := if n ≤ lo then lo else if hi ≤ n then hi else n

/-- `rnd_ha` of R15 on the exact quotient num / den: floor(num / den + 1/2). -/
def rndHa (num den : Nat) : Nat := (2 * num + den) / (2 * den)

end Sys2Proof.Machine
end

