-- ==== Sys2Proof/Machine/Instance.lean ====
section
/-! DEFINITION. The instance configuration of 00_scope.md R8 (its "value" column), the one every vector of
95_test_vectors.md uses, the sine table of 42_lfo_bank.md R224 among it. -/

namespace Sys2Proof.Machine

/-- SIN_LUT[0] to SIN_LUT[31]. -/
def sinRow0 : List Word :=
  [0x00000000#32, 0x3BC90F88#32, 0x3C490E90#32, 0x3C96C9B6#32, 0x3CC90AB0#32, 0x3CFB49BA#32, 0x3D16C32C#32, 0x3D2FE007#32,
   0x3D48FB30#32, 0x3D621469#32, 0x3D7B2B74#32, 0x3D8A200A#32, 0x3D96A905#32, 0x3DA3308C#32, 0x3DAFB680#32, 0x3DBC3AC3#32,
   0x3DC8BD36#32, 0x3DD53DB9#32, 0x3DE1BC2E#32, 0x3DEE3876#32, 0x3DFAB273#32, 0x3E039502#32, 0x3E09CF86#32, 0x3E1008B7#32,
   0x3E164083#32, 0x3E1C76DE#32, 0x3E22ABB6#32, 0x3E28DEFC#32, 0x3E2F10A2#32, 0x3E354098#32, 0x3E3B6ECF#32, 0x3E419B37#32]

/-- SIN_LUT[32] to SIN_LUT[63]. -/
def sinRow1 : List Word :=
  [0x3E47C5C2#32, 0x3E4DEE60#32, 0x3E541501#32, 0x3E5A3997#32, 0x3E605C13#32, 0x3E667C66#32, 0x3E6C9A7F#32, 0x3E72B651#32,
   0x3E78CFCC#32, 0x3E7EE6E1#32, 0x3E827DC0#32, 0x3E8586CE#32, 0x3E888E93#32, 0x3E8B9507#32, 0x3E8E9A22#32, 0x3E919DDD#32,
   0x3E94A031#32, 0x3E97A117#32, 0x3E9AA086#32, 0x3E9D9E78#32, 0x3EA09AE5#32, 0x3EA395C5#32, 0x3EA68F12#32, 0x3EA986C4#32,
   0x3EAC7CD4#32, 0x3EAF713A#32, 0x3EB263EF#32, 0x3EB554EC#32, 0x3EB8442A#32, 0x3EBB31A0#32, 0x3EBE1D4A#32, 0x3EC1071E#32]

/-- SIN_LUT[64] to SIN_LUT[95]. -/
def sinRow2 : List Word :=
  [0x3EC3EF15#32, 0x3EC6D529#32, 0x3EC9B953#32, 0x3ECC9B8B#32, 0x3ECF7BCA#32, 0x3ED25A09#32, 0x3ED53641#32, 0x3ED8106B#32,
   0x3EDAE880#32, 0x3EDDBE79#32, 0x3EE0924F#32, 0x3EE363FA#32, 0x3EE63375#32, 0x3EE900B7#32, 0x3EEBCBBB#32, 0x3EEE9479#32,
   0x3EF15AEA#32, 0x3EF41F07#32, 0x3EF6E0CB#32, 0x3EF9A02D#32, 0x3EFC5D27#32, 0x3EFF17B2#32, 0x3F00E7E4#32, 0x3F0242B1#32,
   0x3F039C3D#32, 0x3F04F484#32, 0x3F064B82#32, 0x3F07A136#32, 0x3F08F59B#32, 0x3F0A48AD#32, 0x3F0B9A6B#32, 0x3F0CEAD0#32]

/-- SIN_LUT[96] to SIN_LUT[127]. -/
def sinRow3 : List Word :=
  [0x3F0E39DA#32, 0x3F0F8784#32, 0x3F10D3CD#32, 0x3F121EB0#32, 0x3F13682A#32, 0x3F14B039#32, 0x3F15F6D9#32, 0x3F173C07#32,
   0x3F187FC0#32, 0x3F19C200#32, 0x3F1B02C6#32, 0x3F1C420C#32, 0x3F1D7FD1#32, 0x3F1EBC12#32, 0x3F1FF6CB#32, 0x3F212FF9#32,
   0x3F226799#32, 0x3F239DA9#32, 0x3F24D225#32, 0x3F26050A#32, 0x3F273656#32, 0x3F286605#32, 0x3F299415#32, 0x3F2AC082#32,
   0x3F2BEB4A#32, 0x3F2D1469#32, 0x3F2E3BDE#32, 0x3F2F61A5#32, 0x3F3085BB#32, 0x3F31A81D#32, 0x3F32C8C9#32, 0x3F33E7BC#32]

/-- SIN_LUT[128] to SIN_LUT[159]. -/
def sinRow4 : List Word :=
  [0x3F3504F3#32, 0x3F36206C#32, 0x3F373A23#32, 0x3F385216#32, 0x3F396842#32, 0x3F3A7CA4#32, 0x3F3B8F3B#32, 0x3F3CA003#32,
   0x3F3DAEF9#32, 0x3F3EBC1B#32, 0x3F3FC767#32, 0x3F40D0DA#32, 0x3F41D870#32, 0x3F42DE29#32, 0x3F43E200#32, 0x3F44E3F5#32,
   0x3F45E403#32, 0x3F46E22A#32, 0x3F47DE65#32, 0x3F48D8B3#32, 0x3F49D112#32, 0x3F4AC77F#32, 0x3F4BBBF8#32, 0x3F4CAE79#32,
   0x3F4D9F02#32, 0x3F4E8D90#32, 0x3F4F7A1F#32, 0x3F5064AF#32, 0x3F514D3D#32, 0x3F5233C6#32, 0x3F531849#32, 0x3F53FAC3#32]

/-- SIN_LUT[160] to SIN_LUT[191]. -/
def sinRow5 : List Word :=
  [0x3F54DB31#32, 0x3F55B993#32, 0x3F5695E5#32, 0x3F577026#32, 0x3F584853#32, 0x3F591E6A#32, 0x3F59F26A#32, 0x3F5AC450#32,
   0x3F5B941A#32, 0x3F5C61C7#32, 0x3F5D2D53#32, 0x3F5DF6BE#32, 0x3F5EBE05#32, 0x3F5F8327#32, 0x3F604621#32, 0x3F6106F2#32,
   0x3F61C598#32, 0x3F628210#32, 0x3F633C5A#32, 0x3F63F473#32, 0x3F64AA59#32, 0x3F655E0B#32, 0x3F660F88#32, 0x3F66BECC#32,
   0x3F676BD8#32, 0x3F6816A8#32, 0x3F68BF3C#32, 0x3F696591#32, 0x3F6A09A7#32, 0x3F6AAB7B#32, 0x3F6B4B0C#32, 0x3F6BE858#32]

/-- SIN_LUT[192] to SIN_LUT[223]. -/
def sinRow6 : List Word :=
  [0x3F6C835E#32, 0x3F6D1C1D#32, 0x3F6DB293#32, 0x3F6E46BE#32, 0x3F6ED89E#32, 0x3F6F6830#32, 0x3F6FF573#32, 0x3F708066#32,
   0x3F710908#32, 0x3F718F57#32, 0x3F721352#32, 0x3F7294F8#32, 0x3F731447#32, 0x3F73913F#32, 0x3F740BDD#32, 0x3F748422#32,
   0x3F74FA0B#32, 0x3F756D97#32, 0x3F75DEC6#32, 0x3F764D97#32, 0x3F76BA07#32, 0x3F772417#32, 0x3F778BC5#32, 0x3F77F110#32,
   0x3F7853F8#32, 0x3F78B47B#32, 0x3F791298#32, 0x3F796E4E#32, 0x3F79C79D#32, 0x3F7A1E84#32, 0x3F7A7302#32, 0x3F7AC516#32]

/-- SIN_LUT[224] to SIN_LUT[255]. -/
def sinRow7 : List Word :=
  [0x3F7B14BE#32, 0x3F7B61FC#32, 0x3F7BACCD#32, 0x3F7BF531#32, 0x3F7C3B28#32, 0x3F7C7EB0#32, 0x3F7CBFC9#32, 0x3F7CFE73#32,
   0x3F7D3AAC#32, 0x3F7D7474#32, 0x3F7DABCC#32, 0x3F7DE0B1#32, 0x3F7E1324#32, 0x3F7E4323#32, 0x3F7E70B0#32, 0x3F7E9BC9#32,
   0x3F7EC46D#32, 0x3F7EEA9D#32, 0x3F7F0E58#32, 0x3F7F2F9D#32, 0x3F7F4E6D#32, 0x3F7F6AC7#32, 0x3F7F84AB#32, 0x3F7F9C18#32,
   0x3F7FB10F#32, 0x3F7FC38F#32, 0x3F7FD397#32, 0x3F7FE129#32, 0x3F7FEC43#32, 0x3F7FF4E6#32, 0x3F7FFB11#32, 0x3F7FFEC4#32]

/-- SIN_LUT[0] to SIN_LUT[255]: f32(sin(2*pi*k/1024)), correctly rounded (log entry 16). -/
def sinQuarter : List Word :=
  sinRow0 ++ sinRow1 ++ sinRow2 ++ sinRow3 ++ sinRow4 ++ sinRow5 ++ sinRow6 ++ sinRow7

/-- SIN_LUT[0] to SIN_LUT[511], by SIN_LUT[512 - k] = SIN_LUT[k], with SIN_LUT[256] = 1.0 (R224). -/
def sinHalf : List Word := sinQuarter ++ (one32 :: (sinQuarter.drop 1).reverse)

/-- SIN_LUT for LOG2_LUT = 10, by SIN_LUT[1024 - k] = -SIN_LUT[k], with SIN_LUT[512] = +0.0 (R224). -/
def sinTable : List Word := sinHalf ++ (zero32 :: (sinHalf.drop 1).map neg32)

/-- SEED_RESET(v) of the instance (00_scope.md R8 P25). -/
def seedResetInstance (v : Nat) : Word :=
  let s := 0x2545F491#32 + BitVec.ofNat 32 v * 0x9E3779B9#32
  if s = 0 then 1 else s

/-- The parameters of a voice of the instance: 220.0 Hz and its seed (00_scope.md R8 P24, P25). -/
def voiceConfigInstance (v : Nat) : VoiceConfig := { resetFreq := 0x435C0000#32, seedReset := seedResetInstance v }

/-- The instance of 00_scope.md R8: N_VOICES = 8, FS = 48000, F_MIN = 20.0 and so on down the value column. -/
def specInstance : Config where
  voices := (List.range 8).map voiceConfigInstance
  fs := 48000
  fMin := 0x41A00000#32
  dampMin := 0x3F000000#32
  dampMax := 0x3F7D70A4#32
  brightMin := 0x3F000000#32
  nlCoef := 0x3E000000#32
  wave0 := .sine
  wave1 := .triangle
  wave2 := .sawtooth
  log2Lut := 10
  sinLut := sinTable
  headroom := 0x3E000000#32
  dcK := 0x3F7EB852#32
  combLen := [1116, 1188, 1277, 1356]
  apLen := [556, 441]
  apG := 0x3F000000#32
  revDamp := 0x3E4CCCCD#32
  combScale := 0x3E800000#32
  revFbMax := 0x3F7AE148#32
  driveMax := 0x41800000#32
  makeupMax := 0x3F800000#32
  tanh := .rounded

end Sys2Proof.Machine
end

