-- ==== Sys2Proof/Machine/Params.lean ====
section
/-! DEFINITION. What the parameters of 00_scope.md R8 determine: the derived constants of R9, Tanh32 (R18) and the
constraints a configuration must meet. -/

namespace Sys2Proof.Machine

/-- P4, DL_CAP = ceil(FS / F_MIN), the quotient exact. -/
def dlCap (c : Config) : Nat := (2 ^ 149 * c.fs + fixMag c.fMin - 1) / fixMag c.fMin

/-- P5, L_MIN. -/
def lMin : Nat := 2

/-- P7, BRIGHT_MAX, which R8 fixes at 1.0. -/
def brightMax : Word := one32

/-- NYQ = f32(FS / 2), which is LFO_FMAX too (R9). -/
def nyq (c : Config) : Word := ofFix (2 ^ 148 * c.fs : Nat)

/-- LUT_SIZE = 2^LOG2_LUT (P11). -/
def lutSize (c : Config) : Nat := 2 ^ c.log2Lut

/-- LUT_QUARTER = LUT_SIZE / 4 (R9). -/
def lutQuarter (c : Config) : Nat := lutSize c / 4

/-! ### Tanh32 -/

/-- The largest value of f at 0, 1, ..., n. -/
def runMax (f : Nat → Nat) : Nat → Nat
  | 0 => f 0
  | n + 1 => max (runMax f n) (f (n + 1))

/-- Fixed point with 192 fraction bits: the sum of the next n terms of the exponential series of y, where t is term k. -/
def expTerms (y : Nat) : Nat → Nat → Nat → Nat
  | 0, _, _ => 0
  | n + 1, k, t => t + expTerms y n (k + 1) (t * y / 2 ^ 192 / (k + 1))

/-- Fixed point with 192 fraction bits: e squared n times. -/
def squareTimes : Nat → Nat → Nat
  | 0, e => e
  | n + 1, e => squareTimes n (e * e / 2 ^ 192)

/-- Magnitude bits of f32(tanh(x)) for the finite magnitude bits m of x (log entries 6 and 21): x itself up to 2^-12,
1.0 from 10.0 on, and 1 - 2 / (E + 1) with E = exp(2x) between. -/
def tanhRoundedMag (m : Nat) : Nat :=
  if m ≤ 0x39800000 then m
  else if 0x41200000 ≤ m then 0x3F800000
  else
    let e := squareTimes 8 (expTerms (2 ^ 36 * fixMag (BitVec.ofNat 32 m)) 40 0 (2 ^ 192))
    roundMag (2 ^ 200 - 2 ^ 393 / (2 ^ 192 + e)) 51

/-- Tanh32 on the magnitude bits of a finite operand: bounded by the operand and by 1.0 (T2, T3 of R18), and for
the free choice monotone (T5): every function with T1 to T5 is this one for some `Config.tanhFree`. -/
def tanhMag (t : TanhChoice) (m : Nat) : Nat :=
  if m = 0 then 0
  else min m (min 0x3F800000 (match t with
    | .free => runMax Config.tanhFree m
    | .rounded => tanhRoundedMag m))

/-- Tanh32 (00_scope.md R8 P23, R18): odd at every operand (T4), and at a finite one with the sign of it. What a NaN or an
infinity gives is free but for that (log entry 7). -/
def tanh32 (c : Config) (x : Word) : Word :=
  if isFinite x then pack (signBit x) (tanhMag c.tanh (magBits x))
  else if signBit x then neg32 (Config.tanhNonFinite (neg32 x))
  else Config.tanhNonFinite x

/-! ### The constraints of R8 -/

/-- lo <= w < hi. -/
def inHalfOpen (w lo hi : Word) : Bool := le32 lo w && le32 w hi && !(toFix w == toFix hi)

/-- lo <= w <= hi. -/
def inClosed (w lo hi : Word) : Bool := le32 lo w && le32 w hi

/-- 0 < w <= hi. -/
def inPositive (w hi : Word) : Bool := le32 w hi && decide (0 < toFix w)

/-- P2 and P3: FS an integer binary32 value of at least 2, and 0 < F_MIN <= FS/2, with P4's bound on DL_CAP. -/
def ratesOk (c : Config) : Bool :=
  decide (2 ≤ c.fs) && isFinite (ofFix (2 ^ 149 * c.fs : Nat)) &&
    (fixMag (ofFix (2 ^ 149 * c.fs : Nat)) == 2 ^ 149 * c.fs) &&
    !isNaN c.fMin && decide (0 < toFix c.fMin) && decide (toFix c.fMin ≤ (2 ^ 148 * c.fs : Nat)) &&
    decide (dlCap c ≤ 65535)

/-- P11 and P12: the table has 2^LOG2_LUT entries, each in [-1, 1] (93_implementation_defined.md U13). -/
def lutOk (c : Config) : Bool :=
  decide (2 ≤ c.log2Lut) && decide (c.log2Lut ≤ 15) && (c.sinLut.length == lutSize c) &&
    c.sinLut.all (fun w => decide (magBits w ≤ 0x3F800000))

/-- P6, P7, P8, P13, P14 and P17 to P22, as R8 states them: a DRIVE_MAX or a COMB_SCALE that breaks the finiteness argument of
44_post_chain.md R285 and R286 is not refused (log entry 26). -/
def gainsOk (c : Config) : Bool :=
  inClosed c.dampMin zero32 c.dampMax && inHalfOpen c.dampMax zero32 one32 &&
    inClosed c.brightMin half32 brightMax && inClosed c.nlCoef zero32 one32 &&
    inPositive c.headroom one32 && inHalfOpen c.dcK zero32 one32 && inHalfOpen c.apG zero32 one32 &&
    inHalfOpen c.revDamp zero32 one32 && inHalfOpen c.revFbMax zero32 one32 &&
    !isNaN c.driveMax && decide (0 < toFix c.driveMax) && inPositive c.makeupMax one32

/-- P1, P15, P16 and P25: 1 to 16 voices with nonzero seeds, at least one comb, no empty reverb memory. -/
def unitsOk (c : Config) : Bool :=
  decide (1 ≤ c.nVoices) && decide (c.nVoices ≤ 16) && c.voices.all (fun v => v.seedReset != 0) &&
    decide (1 ≤ c.combLen.length) && c.combLen.all (fun n => decide (1 ≤ n)) && c.apLen.all (fun n => decide (1 ≤ n))

/-- The configuration meets every constraint of 00_scope.md R8; one that does not "must be refused"
(93_implementation_defined.md section 3). -/
def configOk (c : Config) : Bool :=
  unitsOk c && ratesOk c && gainsOk c && lutOk c

end Sys2Proof.Machine
end

