-- ==== Sys2Proof/Machine/Rates.lean ====
section
/-! DEFINITION. What a frequency determines: the delay length of a voice and the phase increment of an LFO. -/

namespace Sys2Proof.Machine

/-- `clampF` (43_voice_engine.md R241). -/
def clampFreq (c : Config) (f : Word) : Word := clampf f c.fMin (nyq c)

/-- The delay length of a voice played at f (43_voice_engine.md R243): FS / f exact, rounded half away from zero. -/
def delayLength (c : Config) (f : Word) : Nat := clampi (rndHa (2 ^ 149 * c.fs) (fixMag f)) lMin (dlCap c)

/-- `inc_i` (42_lfo_bank.md R221), with LFO_FMAX = NYQ (00_scope.md R9). -/
def lfoIncrement (c : Config) (f : Word) : Word :=
  BitVec.ofNat 32 (rndHa (2 ^ 32 * fixMag (clampf f zero32 (nyq c))) (2 ^ 149 * c.fs))

end Sys2Proof.Machine
end

