-- ==== Sys2Proof/Machine/Units.lean ====
section
/-! DEFINITION. The state of the block's units (10_state.md R30) and their reset values (70_reset_and_hazards.md R321). -/

namespace Sys2Proof.Machine

/-- One copy of the global shadowed parameters (10_state.md R37). -/
structure GlobalParams where
  vibDepth : Word
  tremDepth : Word
  toneDepth : Word
  revFb : Word
  revMix : Word
  drive : Word
  makeup : Word
deriving DecidableEq, Repr

/-- One copy of a voice's shadowed parameters (10_state.md R38). -/
structure VoiceParams where
  freq : Word
  damp : Word
  bright : Word
deriving DecidableEq, Repr

/-- A voice of karplus_strong_voice_engine (10_state.md R38 to R45). -/
structure Voice where
  /-- The shadow copy (R36, R38). -/
  sh : VoiceParams
  /-- The active copy (R36, R38). -/
  act : VoiceParams
  /-- `trigPending[v]` (R42). -/
  trigPending : Bool
  /-- `buf[v]`, DL_CAP cells (R43). -/
  buf : Memory
  /-- `len[v]` (R44). -/
  len : Nat
  /-- `pos[v]` (R44). -/
  pos : Nat
  /-- `yp[v]`, binary32 (R45). -/
  yp : Word
  /-- `vout[v]`, binary32 (R40). -/
  vout : Word
  /-- `seed[v]` (R41). -/
  seed : Word
deriving DecidableEq, Repr

/-- An oscillator of lfo_oscillator_bank (10_state.md R39, R46). -/
structure Lfo where
  /-- LFO[i].FREQ, the shadow copy (R39). -/
  shFreq : Word
  /-- LFO[i].FREQ, the active copy (R39). -/
  actFreq : Word
  /-- `phase[i]`, UQ0.32 (R46). -/
  phase : Word
deriving DecidableEq, Repr

/-- The N_LFO = 3 oscillators (00_scope.md R8 P9). -/
structure LfoBank where
  l0 : Lfo
  l1 : Lfo
  l2 : Lfo
deriving DecidableEq, Repr

/-- A comb of reverb_engine (10_state.md R49): `comb[i]`, `cidx[i]`, `clp[i]`. -/
structure Comb where
  buf : Memory
  idx : Nat
  lp : Word
deriving DecidableEq, Repr

/-- An allpass of reverb_engine (10_state.md R49): `ap[j]`, `aidx[j]`. -/
structure Allpass where
  buf : Memory
  idx : Nat
deriving DecidableEq, Repr

/-- Both copies of the global parameters after RESET (10_state.md R37). -/
def GlobalParams.reset : GlobalParams where
  vibDepth := 0x00000000#32
  tremDepth := 0x00000000#32
  toneDepth := 0x00000000#32
  revFb := 0x3F000000#32
  revMix := 0x00000000#32
  drive := 0x3F800000#32
  makeup := 0x3F800000#32

/-- Both copies of a voice's parameters after RESET (10_state.md R38). -/
def VoiceParams.reset (p : VoiceConfig) : VoiceParams where
  freq := p.resetFreq
  damp := 0x3F7AE148#32
  bright := 0x3F000000#32

/-- A voice after RESET, every cell +0.0 and `len` at L_reset(v) (10_state.md R44, 70_reset_and_hazards.md R321). -/
def Voice.reset (c : Config) (p : VoiceConfig) : Voice where
  sh := VoiceParams.reset p
  act := VoiceParams.reset p
  trigPending := false
  buf := []
  len := delayLength c (clampFreq c p.resetFreq)
  pos := 0
  yp := zero32
  vout := zero32
  seed := p.seedReset

/-- An LFO after RESET (10_state.md R39, R46). -/
def Lfo.reset : Lfo := { shFreq := 0, actFreq := 0, phase := 0 }

/-- The LFO bank after RESET. -/
def LfoBank.reset : LfoBank := { l0 := Lfo.reset, l1 := Lfo.reset, l2 := Lfo.reset }

/-- A comb after RESET or CMD CLEAR (10_state.md R49). -/
def Comb.clear : Comb := { buf := [], idx := 0, lp := zero32 }

/-- An allpass after RESET or CMD CLEAR (10_state.md R49). -/
def Allpass.clear : Allpass := { buf := [], idx := 0 }

end Sys2Proof.Machine
end

