-- ==== Sys2Proof/Syntax.lean ====
section
/-! DEFINITION. The host's events and the operations of the opcode table: one constructor per row. -/

namespace Sys2Proof

/-- What the environment can present to the block (41_tick_sequence.md R209; 30_encoding.md R100, R101). -/
inductive Event where
  /-- One bus transaction: the 16-bit header HDR = T[47:32] and DATA = T[31:0] (R100). -/
  | bus (hdr : BitVec 16) (data : Word)
  /-- A rising edge on sample_strobe (41_tick_sequence.md R201). -/
  | strobe
  /-- A strobe edge while a tick still runs (41_tick_sequence.md R202). -/
  | strobeDrop
  /-- Assertion of rst (70_reset_and_hazards.md R320). -/
  | reset
deriving DecidableEq, Repr

/-- The operations (00_scope.md R7): i is an LFO index ADDR[5:4], v a voice index ADDR[8:5], d the DATA word. -/
inductive Instr where
  /-- RD_ID (R135). -/
  | rdId
  /-- RD_CONFIG (R136). -/
  | rdConfig
  /-- RD_CTRL (R137). -/
  | rdCtrl
  /-- WR_CTRL (R138). -/
  | wrCtrl (d : Word)
  /-- RD_CMD (R139). -/
  | rdCmd
  /-- CMD_NOP (R140). -/
  | cmdNop
  /-- CMD_COMMIT (R141). -/
  | cmdCommit
  /-- CMD_TICK (R142). -/
  | cmdTick
  /-- CMD_CLEAR (R143). -/
  | cmdClear
  /-- CMD_RESERVED (R144): a write of the reserved word d to CMD. -/
  | cmdReserved (d : Word)
  /-- RD_STATUS (R145). -/
  | rdStatus
  /-- WR_STATUS (R146). -/
  | wrStatus (d : Word)
  /-- RD_SAMPLE_COUNT (R149). -/
  | rdSampleCount
  /-- RD_TRIG (R147). -/
  | rdTrig
  /-- WR_TRIG (R148). -/
  | wrTrig (d : Word)
  /-- RD_OUT_L (R150). -/
  | rdOutL
  /-- RD_OUT_R (R151). -/
  | rdOutR
  /-- RD_DL_SEL (R152). -/
  | rdDlSel
  /-- WR_DL_SEL (R153). -/
  | wrDlSel (d : Word)
  /-- RD_DL_DATA (R154). -/
  | rdDlData
  /-- RD_VIB_DEPTH (R155). -/
  | rdVibDepth
  /-- WR_VIB_DEPTH (R156). -/
  | wrVibDepth (d : Word)
  /-- RD_TREM_DEPTH (R157). -/
  | rdTremDepth
  /-- WR_TREM_DEPTH (R158). -/
  | wrTremDepth (d : Word)
  /-- RD_TONE_DEPTH (R159). -/
  | rdToneDepth
  /-- WR_TONE_DEPTH (R160). -/
  | wrToneDepth (d : Word)
  /-- RD_REV_FB (R161). -/
  | rdRevFb
  /-- WR_REV_FB (R162). -/
  | wrRevFb (d : Word)
  /-- RD_REV_MIX (R163). -/
  | rdRevMix
  /-- WR_REV_MIX (R164). -/
  | wrRevMix (d : Word)
  /-- RD_DRIVE (R165). -/
  | rdDrive
  /-- WR_DRIVE (R166). -/
  | wrDrive (d : Word)
  /-- RD_MAKEUP (R167). -/
  | rdMakeup
  /-- WR_MAKEUP (R168). -/
  | wrMakeup (d : Word)
  /-- RD_VOICE_SUM (R169). -/
  | rdVoiceSum
  /-- RD_DC_OUT (R170). -/
  | rdDcOut
  /-- RD_REV_OUT (R171). -/
  | rdRevOut
  /-- RD_LFO_FREQ (R172). -/
  | rdLfoFreq (i : BitVec 2)
  /-- WR_LFO_FREQ (R173). -/
  | wrLfoFreq (i : BitVec 2) (d : Word)
  /-- RD_LFO_PHASE (R174). -/
  | rdLfoPhase (i : BitVec 2)
  /-- RD_LFO_OUT (R175). -/
  | rdLfoOut (i : BitVec 2)
  /-- RD_LFO_COS (R176). -/
  | rdLfoCos (i : BitVec 2)
  /-- RD_V_FREQ (R177). -/
  | rdVFreq (v : BitVec 4)
  /-- WR_V_FREQ (R178). -/
  | wrVFreq (v : BitVec 4) (d : Word)
  /-- RD_V_DAMP (R179). -/
  | rdVDamp (v : BitVec 4)
  /-- WR_V_DAMP (R180). -/
  | wrVDamp (v : BitVec 4) (d : Word)
  /-- RD_V_BRIGHT (R181). -/
  | rdVBright (v : BitVec 4)
  /-- WR_V_BRIGHT (R182). -/
  | wrVBright (v : BitVec 4) (d : Word)
  /-- RD_V_LEN (R183). -/
  | rdVLen (v : BitVec 4)
  /-- RD_V_POS (R184). -/
  | rdVPos (v : BitVec 4)
  /-- RD_V_FILT (R185). -/
  | rdVFilt (v : BitVec 4)
  /-- RD_V_OUT (R186). -/
  | rdVOut (v : BitVec 4)
  /-- RD_V_SEED (R187). -/
  | rdVSeed (v : BitVec 4)
  /-- WR_V_SEED (R188). -/
  | wrVSeed (v : BitVec 4) (d : Word)
  /-- RO_WRITE (R133): a write of d to the read-only register at a. -/
  | roWrite (a : BitVec 12) (d : Word)
  /-- INVALID (R134): a transaction with a reserved header field r, a misaligned or an unmapped address a. -/
  | invalid (w : Bool) (r : BitVec 3) (a : BitVec 12) (d : Word)
  /-- STROBE (R201): a sample-strobe edge. -/
  | strobe
  /-- STROBE_DROP (R202): a sample-strobe edge that overlaps a running tick. -/
  | strobeDrop
  /-- RESET (R320): assertion of rst. -/
  | reset
deriving DecidableEq, Repr

end Sys2Proof
end

