-- ==== Sys2Proof/Machine/State.lean ====
section
/-! DEFINITION. The whole state of the block (10_state.md R30), the reasons a step can stop, and the state after reset. -/

namespace Sys2Proof.Machine

/-- The state: the block's (10_state.md R30), its bus response, and the model's own `events` and `cfg`. -/
structure State where
  /-- The parameters of 00_scope.md R8, which no step changes (log entry 4). -/
  cfg : Config
  /-- CTRL (R33). -/
  ctrl : Word
  /-- STATUS (R53). -/
  status : Word
  /-- SAMPLE_COUNT (R54). -/
  sampleCount : Word
  /-- OUT_L (R50). -/
  outL : Word
  /-- OUT_R (R50). -/
  outR : Word
  /-- VOICE_SUM (R51). -/
  tapSum : Word
  /-- DC_OUT (R51). -/
  tapDc : Word
  /-- REV_OUT (R51). -/
  tapRev : Word
  /-- DL_SEL (R55). -/
  dlSel : Word
  /-- The shadow copy of the global parameters (R36, R37). -/
  shGlobal : GlobalParams
  /-- The active copy of the global parameters (R36, R37). -/
  actGlobal : GlobalParams
  /-- The voices, voice 0 first (R38 to R45). -/
  voices : List Voice
  /-- The LFO bank (R39, R46). -/
  lfos : LfoBank
  /-- The DC blocker's previous input (R48). -/
  dcX1 : Word
  /-- The DC blocker's previous output (R48). -/
  dcY1 : Word
  /-- The reverb's combs, comb 0 first (R49). -/
  combs : List Comb
  /-- The reverb's allpasses, allpass 0 first (R49). -/
  allpasses : List Allpass
  /-- The audio port, left sample (R52). -/
  portL : Word
  /-- The audio port, right sample (R52). -/
  portR : Word
  /-- out_valid: the last step was a tick (R52, R207). -/
  portValid : Bool
  /-- bus_rdata: the response of the last step if it was a bus read, else not driven (R100, R131; log entry 3). -/
  rdata : Option Word
  /-- The host's events still to come, the next one first (log entry 1). -/
  events : List Event
deriving DecidableEq, Repr

/-- Why a step stops with a fault. The spec's block has none (60_exceptions.md R300, R314). -/
inductive Fault where
  /-- An enabled tick would use a delay-line, comb or allpass cell that does not exist (log entry 9). Raised by
  `tick`, only in states outside the invariants I1 and I2 of 10_state.md R58, which no run reaches. Safe. -/
  | cellAbsent
deriving DecidableEq, Repr

/-- Why a request is refused: no operation of the opcode table is. -/
inductive Refusal where
  /-- No meaning for this instruction yet; raised by `exec` only. Safe. -/
  | notModelled (mnemonic : String)
  /-- The configuration lies outside the constraints of 00_scope.md R8 and must be refused
  (93_implementation_defined.md section 3; log entry 5). Raised by `State.build` only, never by a step. Safe. -/
  | configRefused
deriving DecidableEq, Repr

/-- The state right after RESET of a block with parameters c (70_reset_and_hazards.md R321). -/
def State.resetOf (c : Config) : State where
  cfg := c
  ctrl := 0x00000180#32
  status := 0x00000000#32
  sampleCount := 0
  outL := zero32
  outR := zero32
  tapSum := zero32
  tapDc := zero32
  tapRev := zero32
  dlSel := 0
  shGlobal := GlobalParams.reset
  actGlobal := GlobalParams.reset
  voices := c.voices.map (Voice.reset c)
  lfos := LfoBank.reset
  dcX1 := zero32
  dcY1 := zero32
  combs := c.combLen.map fun _ => Comb.clear
  allpasses := c.apLen.map fun _ => Allpass.clear
  portL := zero32
  portR := zero32
  portValid := false
  rdata := none
  events := []

/-- The machine right after reset, built with the instance parameters of 00_scope.md R8 (log entry 4). -/
def State.reset : State := State.resetOf specInstance

end Sys2Proof.Machine
end

