-- ==== Sys2Proof/Machine/Ops.lean ====
section
/-! DEFINITION. The operations shared by the meanings: cells of the internal memories, the response of a bus read, the
effect of a bus write, and access to the register blocks of the LFOs and the voices. -/

namespace Sys2Proof.Machine

/-! ### Cell memories (20_memory.md R80) -/

/-- What a cell that no list entry names holds: the reset value of every cell (10_state.md R43, R49). -/
def Memory.unlisted : Word := zero32

/-- `MemRead(space, k, 32)` (00_scope.md R11). -/
def Memory.read : Memory → Nat → Word
  | [], _ => Memory.unlisted
  | (j, x) :: m, k => if j = k then x else Memory.read m k

/-- `MemWrite(space, k, 32, w)` (00_scope.md R11), keeping the canonical form. -/
def Memory.write : Memory → Nat → Word → Memory
  | [], k, w => if w = Memory.unlisted then [] else [(k, w)]
  | (j, x) :: m, k, w =>
    if k < j then (if w = Memory.unlisted then (j, x) :: m else (k, w) :: (j, x) :: m)
    else if k = j then (if w = Memory.unlisted then m else (k, w) :: m)
    else (j, x) :: Memory.write m k w

/-- The canonical form: indices strictly rising, and no entry that an unlisted cell would read as. -/
abbrev Memory.wf (m : Memory) : Prop :=
  m.Pairwise (fun a b => a.1 < b.1) ∧ ∀ c ∈ m, c.2 ≠ Memory.unlisted

/-! ### Steps that are not ticks -/

/-- The meaning's answer. -/
abbrev Result := Host.Outcome State Fault Refusal

/-- The start of every step that is not a tick: portValid <- 0 before its own effect (41_tick_sequence.md R207), and no
response yet (log entry 3). -/
def State.quiet (s : State) : State := { s with portValid := false, rdata := none }

/-- A valid bus read that answers w: no state changes (40_bus_interface.md R130). -/
def respond (w : Word) (s : State) : Result := .next { s.quiet with rdata := some w }

/-- A step that is not a tick and changes the state by f (40_bus_interface.md R131, R132). -/
def update (f : State → State) (s : State) : Result := .next (f s.quiet)

/-- Sets a sticky STATUS bit. This is all that an error does: there is no exception entry, nothing is saved and nothing
is vectored (10_state.md R53, 60_exceptions.md R300, R303). -/
def State.flag (bit : Nat) (s : State) : State := { s with status := s.status ||| (1#32 <<< bit) }

/-- BUS_ERR (10_state.md R53). -/
def busErr : Nat := 0

/-- CMD_ERR (10_state.md R53). -/
def cmdErr : Nat := 1

/-- OVERRUN (10_state.md R53). -/
def overrun : Nat := 2

/-- An invalid transaction (40_bus_interface.md R134): BUS_ERR, and a read answers 0. -/
def invalidAccess (w : Bool) (s : State) : Result :=
  .next { s.quiet.flag busErr with rdata := if w then none else some 0 }

/-! ### The LFO and voice blocks -/

/-- LFO i, for i in 0..2 (30_encoding.md R104). -/
def LfoBank.get (b : LfoBank) (i : BitVec 2) : Option Lfo :=
  match i.toNat with
  | 0 => some b.l0
  | 1 => some b.l1
  | 2 => some b.l2
  | _ => none

/-- The bank with LFO i replaced. -/
def LfoBank.set (b : LfoBank) (i : BitVec 2) (x : Lfo) : LfoBank :=
  match i.toNat with
  | 0 => { b with l0 := x }
  | 1 => { b with l1 := x }
  | 2 => { b with l2 := x }
  | _ => b

/-- The bank with every LFO changed by f. -/
def LfoBank.map (f : Lfo → Lfo) (b : LfoBank) : LfoBank := { l0 := f b.l0, l1 := f b.l1, l2 := f b.l2 }

/-- A read of a register of LFO i; i = 3 is unmapped (30_encoding.md R102; log entry 14). -/
def readLfo (i : BitVec 2) (f : Lfo → Word) (s : State) : Result :=
  match s.lfos.get i with
  | some x => respond (f x) s
  | none => invalidAccess false s

/-- A write to a register of LFO i; i = 3 is unmapped (30_encoding.md R102; log entry 14). -/
def writeLfo (i : BitVec 2) (f : Lfo → Lfo) (s : State) : Result :=
  match s.lfos.get i with
  | some x => update (fun t => { t with lfos := t.lfos.set i (f x) }) s
  | none => invalidAccess true s

/-- A read of a register of voice v; a voice the block does not have is unmapped (30_encoding.md R102; log entry 14). -/
def readVoice (v : BitVec 4) (f : Voice → Word) (s : State) : Result :=
  match s.voices[v.toNat]? with
  | some x => respond (f x) s
  | none => invalidAccess false s

/-- A write to a register of voice v; a voice the block does not have is unmapped (30_encoding.md R102; log entry 14). -/
def writeVoice (v : BitVec 4) (f : Voice → Voice) (s : State) : Result :=
  match s.voices[v.toNat]? with
  | some x => update (fun t => { t with voices := t.voices.set v.toNat (f x) }) s
  | none => invalidAccess true s

end Sys2Proof.Machine
end

