-- ==== Sys2Proof/Machine/BusErrors.lean ====
section
/-! DEFINITION. Bus errors (40_bus_interface.md R133, R134). -/

namespace Sys2Proof.Machine

/-- RO_WRITE (40_bus_interface.md R133): BUS_ERR, and nothing is written. -/
def execRoWrite (_a : BitVec 12) (_d : Word) (s : State) : Result := update (State.flag busErr) s

/-- INVALID (40_bus_interface.md R134): BUS_ERR, and a read answers 0. -/
def execInvalid (w : Bool) (_r : BitVec 3) (_a : BitVec 12) (_d : Word) (s : State) : Result := invalidAccess w s

end Sys2Proof.Machine
end

