-- ==== Sys2Proof/Machine/Lfo.lean ====
section
/-! DEFINITION. The LFO oscillator bank (42_lfo_bank.md). -/

namespace Sys2Proof.Machine

/-- `idx(p)`: the top LOG2_LUT bits of the phase (R223). -/
def lutIndex (c : Config) (p : Word) : Nat := p.toNat / 2 ^ (32 - c.log2Lut)

/-- SIN_LUT[k]. A configuration that meets R8 has an entry for every k below LUT_SIZE, and no rule asks for another. -/
def sinEntry (c : Config) (k : Nat) : Word := c.sinLut.getD k zero32

/-- `sinOut(p)` (R224). -/
def sinOut (c : Config) (p : Word) : Word := sinEntry c (lutIndex c p)

/-- `cosOut(p)` (R225). -/
def cosOut (c : Config) (p : Word) : Word := sinEntry c ((lutIndex c p + lutQuarter c) % lutSize c)

/-- `tri(p)` (R226), exact: the numerator is over 2^22. -/
def tri (p : Word) : Word :=
  let h : Int := (p.toNat / 2 ^ 8 : Nat)
  ofFix (2 ^ 127 * if h < 2 ^ 23 then h - 2 ^ 22 else 3 * 2 ^ 22 - h)

/-- `saw(p)` (R227), exact: the numerator is over 2^23. -/
def saw (p : Word) : Word :=
  let h : Int := (p.toNat / 2 ^ 8 : Nat)
  ofFix (2 ^ 126 * (h - 2 ^ 23))

/-- The output of an LFO with this waveform at phase p (R228). -/
def waveOut (c : Config) (w : Waveform) (p : Word) : Word :=
  match w with
  | .sine => sinOut c p
  | .triangle => tri p
  | .sawtooth => saw p

/-- LFO_WAVE[i], for i in 0..2 (00_scope.md R8 P10); i = 3 names no LFO. -/
def lfoWave (c : Config) (i : BitVec 2) : Waveform :=
  match i.toNat with
  | 0 => c.wave0
  | 1 => c.wave1
  | _ => c.wave2

/-- `l[0]`, the vibrato modulation of a tick (R220; 41_tick_sequence.md R204). -/
def vibLfo (s : State) : Word := waveOut s.cfg s.cfg.wave0 s.lfos.l0.phase

/-- `l[1]`, the tremolo modulation of a tick. -/
def tremLfo (s : State) : Word := waveOut s.cfg s.cfg.wave1 s.lfos.l1.phase

/-- `l[2]`, the tone modulation of a tick. -/
def toneLfo (s : State) : Word := waveOut s.cfg s.cfg.wave2 s.lfos.l2.phase

/-- An LFO at the end of an enabled tick: phase advanced by its increment mod 2^32 (R222). -/
def Lfo.advance (c : Config) (x : Lfo) : Lfo := { x with phase := x.phase + lfoIncrement c x.actFreq }

end Sys2Proof.Machine
end

