-- ==== Sys2Proof/Machine/Flags.lean ====
section
/-! DEFINITION. The bits of CTRL (10_state.md R33) and the write-1-to-clear rule of STATUS (10_state.md R53). -/

namespace Sys2Proof.Machine

/-- EN. -/
def ctrlEn (c : Word) : Bool := c.getLsbD 0

/-- TICK_SRC: the command makes ticks, not the strobe. -/
def ctrlTickSrc (c : Word) : Bool := c.getLsbD 1

/-- NL_EN. -/
def ctrlNlEn (c : Word) : Bool := c.getLsbD 2

/-- VIB_EN. -/
def ctrlVibEn (c : Word) : Bool := c.getLsbD 3

/-- TREM_EN. -/
def ctrlTremEn (c : Word) : Bool := c.getLsbD 4

/-- TONE_EN. -/
def ctrlToneEn (c : Word) : Bool := c.getLsbD 5

/-- REV_EN. -/
def ctrlRevEn (c : Word) : Bool := c.getLsbD 6

/-- CTRL after a write of d: bits 6:0 from d, DCB_EN and SAT_EN hardwired 1, the rest 0 (40_bus_interface.md R138). -/
def ctrlWritten (d : Word) : Word := (d &&& 0x0000007F#32) ||| 0x00000180#32

/-- The STATUS bits a host sees: bits 2:0, the rest read 0 (40_bus_interface.md R145). -/
def statusRead (s : Word) : Word := s &&& 0x00000007#32

/-- STATUS after a write of d: each of bits 2:0 that d has as 1 is cleared (40_bus_interface.md R146). -/
def statusWritten (s d : Word) : Word := s &&& ~~~(d &&& 0x00000007#32)

end Sys2Proof.Machine
end

