-- ==== Sys2Proof/Machine/VoiceEngine.lean ====
section
/-! DEFINITION. The string voice engine: `VoiceStep` and its parts (43_voice_engine.md R240 to R254). -/

namespace Sys2Proof.Machine

/-! ### Parameters of the tick -/

/-- `clampf(x, 0.0, 1.0)`, the clamp of the depths and the mix. -/
def clampUnit (x : Word) : Word := clampf x zero32 one32

/-- The damping d (R245). -/
def voiceDamp (c : Config) (v : Voice) : Word := clampf v.act.damp c.dampMin c.dampMax

/-- The brightness b, with tone modulation l2 where TONE_EN is set (R246). -/
def voiceBright (c : Config) (ctrl : Word) (g : GlobalParams) (l2 : Word) (v : Voice) : Word :=
  let b0 := clampf v.act.bright c.brightMin brightMax
  if ctrlToneEn ctrl then clampf (add32 b0 (mul32 (clampUnit g.toneDepth) l2)) c.brightMin brightMax else b0

/-- The frequency f, with vibrato l0 where VIB_EN is set (R241, R242). -/
def voiceFreq (c : Config) (ctrl : Word) (g : GlobalParams) (l0 : Word) (v : Voice) : Word :=
  let f0 := clampFreq c v.act.freq
  if ctrlVibEn ctrl then clampFreq c (mul32 f0 (add32 one32 (mul32 (clampUnit g.vibDepth) l0))) else f0

/-! ### Delay length -/

/-- `Resize(v, Lnew)` (R244). -/
def Voice.resize (l : Nat) (v : Voice) : Voice :=
  if l = v.len then v else { v with len := l, pos := if l ≤ v.pos then 0 else v.pos }

/-! ### Excitation -/

/-- `xs32` (00_scope.md R17). -/
def xs32 (s : Word) : Word :=
  let s := s ^^^ (s <<< 13)
  let s := s ^^^ (s >>> 17)
  s ^^^ (s <<< 5)

/-- `noise(s)`: bits 31:8 as a signed integer over 2^23, exact (R247). -/
def noise (s : Word) : Word := ofFix (2 ^ 126 * (s.extractLsb' 8 24).toInt)

/-- Draws into the n cells from index k on (R247, R249): the memory and the seed after them. -/
def fill : Nat → Nat → Word → Memory → Memory × Word
  | 0, _, s, m => (m, s)
  | n + 1, k, s, m => fill n (k + 1) (xs32 s) (Memory.write m k (noise (xs32 s)))

/-- `Excite(v)` (R249). -/
def Voice.excite (v : Voice) : Voice :=
  { v with buf := (fill v.len 0 v.seed v.buf).1, seed := (fill v.len 0 v.seed v.buf).2, pos := 0, yp := zero32 }

/-- The consumption of a pending trigger (R248). -/
def Voice.consume (v : Voice) : Voice := if v.trigPending then { v.excite with trigPending := false } else v

/-! ### The loop -/

/-- The loop filter on the delayed sample x and the filter state y1 (R251). -/
def loopFilter (b d x y1 : Word) : Word := mul32 d (add32 (mul32 b x) (mul32 (sub32 one32 b) y1))

/-- The nonlinearity (R252). -/
def nonlinear (c : Config) (y : Word) : Word := add32 y (mul32 c.nlCoef (sub32 (tanh32 c y) y))

/-- The sample y that the loop makes from the cell at `pos` (R250 to R252). -/
def loopSample (c : Config) (ctrl b d : Word) (v : Voice) : Word :=
  let y := loopFilter b d (Memory.read v.buf v.pos) v.yp
  if ctrlNlEn ctrl then nonlinear c y else y

/-- The write, advance and output of y (R253, R254). -/
def Voice.emit (y : Word) (v : Voice) : Voice :=
  { v with buf := Memory.write v.buf v.pos y, yp := y, pos := (v.pos + 1) % v.len, vout := y }

/-- The voice before its loop: resized to this tick's length, and excited where a trigger is pending (R243, R248). -/
def Voice.prepare (c : Config) (ctrl : Word) (g : GlobalParams) (l0 : Word) (v : Voice) : Voice :=
  (v.resize (delayLength c (voiceFreq c ctrl g l0 v))).consume

/-- `VoiceStep(v, l)` (R240): the voice after an enabled tick; the sample it returns is its `vout`. -/
def voiceStep (c : Config) (ctrl : Word) (g : GlobalParams) (l0 l2 : Word) (v : Voice) : Voice :=
  let p := v.prepare c ctrl g l0
  p.emit (loopSample c ctrl (voiceBright c ctrl g l2 v) (voiceDamp c v) p)

end Sys2Proof.Machine
end

