-- ==== Sys2Proof/Machine/PostChain.lean ====
section
/-! DEFINITION. The voice mixer and post chain (44_post_chain.md R270 to R280). -/

namespace Sys2Proof.Machine

/-- The sum of the voices' samples, in increasing v (R270). -/
def voiceSum (vs : List Voice) : Word := vs.foldl (fun a x => add32 a x.vout) zero32

/-- `TremGain(l1)` (R271). -/
def tremGain (g : GlobalParams) (l1 : Word) : Word :=
  sub32 one32 (mul32 (clampUnit g.tremDepth) (mul32 (sub32 one32 l1) half32))

/-- `Mix(y, l1)` (R270). -/
def mix (c : Config) (ctrl : Word) (g : GlobalParams) (l1 : Word) (vs : List Voice) : Word :=
  let m := mul32 (voiceSum vs) c.headroom
  if ctrlTremEn ctrl then mul32 m (tremGain g l1) else m

/-- `DcBlock(x)`, the output for the state x1, y1 (R272), with the roundings of 00_scope.md R13 also where the decay to 0 that
R283 remarks on then stops at a subnormal (log entry 25). -/
def dcBlock (c : Config) (x x1 y1 : Word) : Word := add32 (sub32 x x1) (mul32 c.dcK y1)

/-- `fb` (R274). -/
def reverbFb (c : Config) (g : GlobalParams) : Word := clampf g.revFb zero32 c.revFbMax

/-- What a comb returns: the cell at its index (R275). -/
def Comb.out (x : Comb) : Word := Memory.read x.buf x.idx

/-- The lowpass in a comb's loop after a step (R275). -/
def Comb.nextLp (c : Config) (x : Comb) : Word :=
  add32 (mul32 x.out (sub32 one32 c.revDamp)) (mul32 x.lp c.revDamp)

/-- A comb of n cells after a step on input e (R275). -/
def Comb.step (c : Config) (fb e : Word) (n : Nat) (x : Comb) : Comb :=
  { buf := Memory.write x.buf x.idx (add32 e (mul32 (x.nextLp c) fb)), idx := (x.idx + 1) % n, lp := x.nextLp c }

/-- `w`: the scaled sum of what the combs return (R276). -/
def combSum (c : Config) (xs : List Comb) : Word :=
  mul32 (xs.foldl (fun a x => add32 a x.out) zero32) c.combScale

/-- `t` of an allpass on input w (R277). -/
def Allpass.store (g w : Word) (x : Allpass) : Word := add32 w (mul32 g (Memory.read x.buf x.idx))

/-- What an allpass returns on input w (R277). -/
def Allpass.out (g w : Word) (x : Allpass) : Word := sub32 (Memory.read x.buf x.idx) (mul32 g (x.store g w))

/-- An allpass of n cells after a step on input w (R277). -/
def Allpass.step (g w : Word) (n : Nat) (x : Allpass) : Allpass :=
  { buf := Memory.write x.buf x.idx (x.store g w), idx := (x.idx + 1) % n }

/-- The allpasses after a step of the series on input w (R277), with their lengths AP_LEN. -/
def allpassSteps (g : Word) : Word → List Nat → List Allpass → List Allpass
  | w, n :: ns, x :: xs => x.step g w n :: allpassSteps g (x.out g w) ns xs
  | _, [], xs => xs
  | _, _ :: _, [] => []

/-- `wet`: what the series of allpasses returns on input w (R277). -/
def allpassOut (g : Word) : Word → List Allpass → Word
  | w, [] => w
  | w, x :: xs => allpassOut g (x.out g w) xs

/-- The dry/wet mix (R274, R278). -/
def dryWet (g : GlobalParams) (e wet : Word) : Word :=
  add32 (mul32 (sub32 one32 (clampUnit g.revMix)) e) (mul32 (clampUnit g.revMix) wet)

/-- `Reverb(e)`, the output (R276 to R278). -/
def reverbOut (c : Config) (g : GlobalParams) (combs : List Comb) (aps : List Allpass) (e : Word) : Word :=
  dryWet g e (allpassOut c.apG (combSum c combs) aps)

/-- `Saturate(r)` (R279, R280). -/
def saturate (c : Config) (g : GlobalParams) (r : Word) : Word :=
  mul32 (tanh32 c (mul32 r (clampf g.drive zero32 c.driveMax))) (clampf g.makeup zero32 c.makeupMax)

end Sys2Proof.Machine
end

