-- ==== Sys2Proof/Machine/Tick.lean ====
section
/-! DEFINITION. The sample tick (41_tick_sequence.md R200 to R208). -/

namespace Sys2Proof.Machine

/-- `Emit(a, b)` (R207): a tick drives no bus response (log entry 3). -/
def State.emitted (a b : Word) (s : State) : State := { s with portL := a, portR := b, portValid := true, rdata := none }

/-- `SilentTick()` (R203). -/
def silentTick (s : State) : State := { s with outL := zero32, outR := zero32 }.emitted zero32 zero32

/-! ### The stages of an enabled tick, each from the state at its start -/

/-- The voices after the tick (R200, R205). -/
def tickVoices (s : State) : List Voice :=
  s.voices.map (voiceStep s.cfg s.ctrl s.actGlobal (vibLfo s) (toneLfo s))

/-- `m`, the mixer output. -/
def tickSum (s : State) : Word := mix s.cfg s.ctrl s.actGlobal (tremLfo s) (tickVoices s)

/-- `e`, the DC-blocker output. -/
def tickDc (s : State) : Word := dcBlock s.cfg (tickSum s) s.dcX1 s.dcY1

/-- `r`, the reverb output, or e where REV_EN = 0 (44_post_chain.md R273). -/
def tickRev (s : State) : Word :=
  if ctrlRevEn s.ctrl then reverbOut s.cfg s.actGlobal s.combs s.allpasses (tickDc s) else tickDc s

/-- The combs after the tick: frozen where REV_EN = 0 (44_post_chain.md R273). -/
def tickCombs (s : State) : List Comb :=
  if ctrlRevEn s.ctrl then
    List.zipWith (Comb.step s.cfg (reverbFb s.cfg s.actGlobal) (tickDc s)) s.cfg.combLen s.combs
  else s.combs

/-- The allpasses after the tick: frozen where REV_EN = 0 (44_post_chain.md R273). -/
def tickAllpasses (s : State) : List Allpass :=
  if ctrlRevEn s.ctrl then allpassSteps s.cfg.apG (combSum s.cfg s.combs) s.cfg.apLen s.allpasses else s.allpasses

/-- `z`, the output sample. -/
def tickOut (s : State) : Word := saturate s.cfg s.actGlobal (tickRev s)

/-- `Tick()` with EN = 1 (R200): every stage, the taps, the outputs, the emission, then the end-of-tick updates. -/
def enabledTick (s : State) : State :=
  { s with
    voices := tickVoices s
    dcX1 := tickSum s
    dcY1 := tickDc s
    combs := tickCombs s
    allpasses := tickAllpasses s
    tapSum := tickSum s
    tapDc := tickDc s
    tapRev := tickRev s
    outL := tickOut s
    outR := tickOut s
    lfos := s.lfos.map (Lfo.advance s.cfg)
    sampleCount := s.sampleCount + 1 }.emitted (tickOut s) (tickOut s)

/-! ### Every cell the tick uses exists -/

/-- Each index lies in its memory, and there are as many indices as memories (10_state.md R58 I2). -/
def indicesIn : List Nat → List Nat → Bool
  | [], [] => true
  | i :: is, n :: ns => decide (i < n) && indicesIn is ns
  | [], _ :: _ => false
  | _ :: _, [] => false

/-- I1 of 10_state.md R58 for one voice, but for the lower bound of `len`. -/
def Voice.indexed (c : Config) (v : Voice) : Bool := decide (v.pos < v.len) && decide (v.len ≤ dlCap c)

/-- I1 and I2 of 10_state.md R58: what an enabled tick relies on to use only cells that exist (log entry 9). -/
def State.indexed (s : State) : Bool :=
  s.voices.all (Voice.indexed s.cfg) && indicesIn (s.combs.map Comb.idx) s.cfg.combLen &&
    indicesIn (s.allpasses.map Allpass.idx) s.cfg.apLen

/-- `Tick()` (R200). -/
def tick (s : State) : Result :=
  if ctrlEn s.ctrl then (if s.indexed then .next (enabledTick s) else .fault .cellAbsent)
  else .next (silentTick s)

end Sys2Proof.Machine
end

