-- ==== Sys2Proof/Machine/Commands.lean ====
section
/-! DEFINITION. The CMD register: reading it, the four commands and the reserved words (40_bus_interface.md R139 to R144). -/

namespace Sys2Proof.Machine

/-- RD_CMD (40_bus_interface.md R139): write-only, it reads 0. -/
def execRdCmd (s : State) : Result := respond 0 s

/-- CMD_NOP (40_bus_interface.md R140). -/
def execCmdNop (s : State) : Result := update (fun t => t) s

/-- A voice's parameters after CMD COMMIT (40_bus_interface.md R141). -/
def Voice.commit (v : Voice) : Voice := { v with act := v.sh }

/-- An LFO's frequency after CMD COMMIT (40_bus_interface.md R141). -/
def Lfo.commit (x : Lfo) : Lfo := { x with actFreq := x.shFreq }

/-- Every active copy loaded from its shadow, in one step (40_bus_interface.md R141). -/
def State.commit (s : State) : State :=
  { s with actGlobal := s.shGlobal, voices := s.voices.map Voice.commit, lfos := s.lfos.map Lfo.commit }

/-- CMD_COMMIT (40_bus_interface.md R141). -/
def execCmdCommit (s : State) : Result := update State.commit s

/-- CMD_TICK (40_bus_interface.md R142): a tick where TICK_SRC = 1, else CMD_ERR and no tick. -/
def execCmdTick (s : State) : Result :=
  if ctrlTickSrc s.ctrl then tick s else update (State.flag cmdErr) s

/-- A voice after CMD CLEAR (40_bus_interface.md R143): `len`, `seed` and both parameter copies are kept. -/
def Voice.clear (v : Voice) : Voice :=
  { v with buf := [], pos := 0, yp := zero32, vout := zero32, trigPending := false }

/-- An LFO after CMD CLEAR (40_bus_interface.md R143). -/
def Lfo.clear (x : Lfo) : Lfo := { x with phase := 0 }

/-- The signal state cleared, the configuration kept (40_bus_interface.md R143, 70_reset_and_hazards.md R323). -/
def State.clear (s : State) : State :=
  { s with
    voices := s.voices.map Voice.clear
    lfos := s.lfos.map Lfo.clear
    dcX1 := zero32
    dcY1 := zero32
    combs := s.combs.map fun _ => Comb.clear
    allpasses := s.allpasses.map fun _ => Allpass.clear
    outL := zero32
    outR := zero32
    tapSum := zero32
    tapDc := zero32
    tapRev := zero32 }

/-- CMD_CLEAR (40_bus_interface.md R143). The port samples stay; portValid falls as on every step that is not a tick
(41_tick_sequence.md R207; log entry 12). -/
def execCmdClear (s : State) : Result := update State.clear s

/-- CMD_RESERVED (40_bus_interface.md R144): the word d itself is discarded. -/
def execCmdReserved (_d : Word) (s : State) : Result := update (State.flag cmdErr) s

end Sys2Proof.Machine
end

