-- ==== Sys2Proof/Machine/Operands.lean ====
section
/-! DEFINITION. The data-word forms of 30_encoding.md R106 other than the raw binary32 word: the voice mask of TRIG, the fields
of DL_SEL, the word of CONFIG, and the SEED word. -/

namespace Sys2Proof.Machine

/-- The TRIG word of a list of voices that starts at bit k (40_bus_interface.md R147). -/
def trigWordFrom : List Voice → Nat → Word
  | [], _ => 0
  | x :: xs, k => (if x.trigPending then 1#32 <<< k else 0) ||| trigWordFrom xs (k + 1)

/-- What TRIG reads: bit v is `trigPending[v]`, bits at or above N_VOICES 0 (10_state.md R42). -/
def trigWord (vs : List Voice) : Word := trigWordFrom vs 0

/-- The voices after a TRIG write of d, the first of them being voice k: each voice whose bit is 1 becomes pending and
no pending voice is cleared (40_bus_interface.md R148). -/
def orTrigFrom (d : Word) : List Voice → Nat → List Voice
  | [], _ => []
  | x :: xs, k => { x with trigPending := x.trigPending || d.getLsbD k } :: orTrigFrom d xs (k + 1)

/-- The voices after a TRIG write of d (40_bus_interface.md R148). -/
def orTrig (d : Word) (vs : List Voice) : List Voice := orTrigFrom d vs 0

/-- DL_SEL keeps bits 19:0 (40_bus_interface.md R152, R153). -/
def dlSelBits (d : Word) : Word := d &&& 0x000FFFFF#32

/-- DL_SEL.VOICE, bits 19:16 (10_state.md R55). -/
def dlSelVoice (d : Word) : Nat := (d.extractLsb' 16 4).toNat

/-- DL_SEL.INDEX, bits 15:0 (10_state.md R55). -/
def dlSelIndex (d : Word) : Nat := (d.extractLsb' 0 16).toNat

/-- What DL_DATA reads: the selected cell, or 0 for a selection out of range (40_bus_interface.md R154). -/
def dlData (s : State) : Word :=
  match s.voices[dlSelVoice s.dlSel]? with
  | some x => if dlSelIndex s.dlSel < dlCap s.cfg then Memory.read x.buf (dlSelIndex s.dlSel) else 0
  | none => 0

/-- The code of a waveform in CONFIG (10_state.md R35). -/
def waveCode : Waveform → BitVec 2
  | .sine => 0
  | .triangle => 1
  | .sawtooth => 2

/-- What CONFIG reads (40_bus_interface.md R136). -/
def configWord (c : Config) : Word :=
  BitVec.ofNat 16 (dlCap c) ++ 0#1 ++ BitVec.ofNat 4 c.log2Lut ++ waveCode c.wave2 ++ waveCode c.wave1 ++
    waveCode c.wave0 ++ BitVec.ofNat 5 c.nVoices

/-- What ID reads (10_state.md R34). -/
def idWord : Word := 0x4B534D01#32

/-- What a SEED write of d stores: 0 becomes 1 (40_bus_interface.md R188). -/
def seedWritten (d : Word) : Word := if d = 0 then 1 else d

end Sys2Proof.Machine
end

