-- ==== Sys2Proof/Machine/DelayWindow.lean ====
section
/-! DEFINITION. The delay-line window DL_SEL and DL_DATA (40_bus_interface.md R152 to R154). -/

namespace Sys2Proof.Machine

/-- RD_DL_SEL (40_bus_interface.md R152). -/
def execRdDlSel (s : State) : Result := respond (dlSelBits s.dlSel) s

/-- WR_DL_SEL (40_bus_interface.md R153). -/
def execWrDlSel (d : Word) (s : State) : Result := update (fun t => { t with dlSel := dlSelBits d }) s

/-- RD_DL_DATA (40_bus_interface.md R154). -/
def execRdDlData (s : State) : Result := respond (dlData s) s

end Sys2Proof.Machine
end

