-- ==== Sys2Proof/Machine/GlobalRegs.lean ====
section
/-! DEFINITION. The global shadowed parameters: a read answers the shadow word, a write stores the raw word in the shadow
(40_bus_interface.md R132, R155 to R168). -/

namespace Sys2Proof.Machine

/-- RD_VIB_DEPTH (40_bus_interface.md R155). -/
def execRdVibDepth (s : State) : Result := respond s.shGlobal.vibDepth s

/-- WR_VIB_DEPTH (40_bus_interface.md R156). -/
def execWrVibDepth (d : Word) (s : State) : Result := update (fun t => { t with shGlobal := { t.shGlobal with vibDepth := d } }) s

/-- RD_TREM_DEPTH (40_bus_interface.md R157). -/
def execRdTremDepth (s : State) : Result := respond s.shGlobal.tremDepth s

/-- WR_TREM_DEPTH (40_bus_interface.md R158). -/
def execWrTremDepth (d : Word) (s : State) : Result := update (fun t => { t with shGlobal := { t.shGlobal with tremDepth := d } }) s

/-- RD_TONE_DEPTH (40_bus_interface.md R159). -/
def execRdToneDepth (s : State) : Result := respond s.shGlobal.toneDepth s

/-- WR_TONE_DEPTH (40_bus_interface.md R160). -/
def execWrToneDepth (d : Word) (s : State) : Result := update (fun t => { t with shGlobal := { t.shGlobal with toneDepth := d } }) s

/-- RD_REV_FB (40_bus_interface.md R161). -/
def execRdRevFb (s : State) : Result := respond s.shGlobal.revFb s

/-- WR_REV_FB (40_bus_interface.md R162). -/
def execWrRevFb (d : Word) (s : State) : Result := update (fun t => { t with shGlobal := { t.shGlobal with revFb := d } }) s

/-- RD_REV_MIX (40_bus_interface.md R163). -/
def execRdRevMix (s : State) : Result := respond s.shGlobal.revMix s

/-- WR_REV_MIX (40_bus_interface.md R164). -/
def execWrRevMix (d : Word) (s : State) : Result := update (fun t => { t with shGlobal := { t.shGlobal with revMix := d } }) s

/-- RD_DRIVE (40_bus_interface.md R165). -/
def execRdDrive (s : State) : Result := respond s.shGlobal.drive s

/-- WR_DRIVE (40_bus_interface.md R166). -/
def execWrDrive (d : Word) (s : State) : Result := update (fun t => { t with shGlobal := { t.shGlobal with drive := d } }) s

/-- RD_MAKEUP (40_bus_interface.md R167). -/
def execRdMakeup (s : State) : Result := respond s.shGlobal.makeup s

/-- WR_MAKEUP (40_bus_interface.md R168). -/
def execWrMakeup (d : Word) (s : State) : Result := update (fun t => { t with shGlobal := { t.shGlobal with makeup := d } }) s

end Sys2Proof.Machine
end

