-- ==== Sys2Proof/Machine/Identification.lean ====
section
/-! DEFINITION. Identification and control: ID, CONFIG, CTRL (40_bus_interface.md R135 to R138). -/

namespace Sys2Proof.Machine

/-- RD_ID (40_bus_interface.md R135). -/
def execRdId (s : State) : Result := respond idWord s

/-- RD_CONFIG (40_bus_interface.md R136). -/
def execRdConfig (s : State) : Result := respond (configWord s.cfg) s

/-- RD_CTRL (40_bus_interface.md R137). -/
def execRdCtrl (s : State) : Result := respond s.ctrl s

/-- WR_CTRL (40_bus_interface.md R138). -/
def execWrCtrl (d : Word) (s : State) : Result := update (fun t => { t with ctrl := ctrlWritten d }) s

end Sys2Proof.Machine
end

