-- ==== Sys2Proof/Machine/LfoRegs.lean ====
section
/-! DEFINITION. The LFO blocks (40_bus_interface.md R172 to R176). -/

namespace Sys2Proof.Machine

/-- RD_LFO_FREQ (40_bus_interface.md R172). -/
def execRdLfoFreq (i : BitVec 2) (s : State) : Result := readLfo i (fun x => x.shFreq) s

/-- WR_LFO_FREQ (40_bus_interface.md R173). -/
def execWrLfoFreq (i : BitVec 2) (d : Word) (s : State) : Result :=
  writeLfo i (fun x => { x with shFreq := d }) s

/-- RD_LFO_PHASE (40_bus_interface.md R174). -/
def execRdLfoPhase (i : BitVec 2) (s : State) : Result := readLfo i (fun x => x.phase) s

/-- RD_LFO_OUT (40_bus_interface.md R175): the output at the current phase. -/
def execRdLfoOut (i : BitVec 2) (s : State) : Result :=
  readLfo i (fun x => waveOut s.cfg (lfoWave s.cfg i) x.phase) s

/-- RD_LFO_COS (40_bus_interface.md R176): the quadrature output, whatever the waveform. -/
def execRdLfoCos (i : BitVec 2) (s : State) : Result := readLfo i (fun x => cosOut s.cfg x.phase) s

end Sys2Proof.Machine
end

