-- ==== Sys2Proof/Machine/PortEvents.lean ====
section
/-! DEFINITION. The port events STROBE, STROBE_DROP (41_tick_sequence.md R201, R202) and RESET (70_reset_and_hazards.md R320). -/

namespace Sys2Proof.Machine

/-- STROBE (41_tick_sequence.md R201): a tick where TICK_SRC = 0, else ignored without a flag. -/
def execStrobe (s : State) : Result := if ctrlTickSrc s.ctrl then update (fun t => t) s else tick s

/-- STROBE_DROP (41_tick_sequence.md R202): OVERRUN where TICK_SRC = 0, else ignored. -/
def execStrobeDrop (s : State) : Result :=
  if ctrlTickSrc s.ctrl then update (fun t => t) s else update (State.flag overrun) s

/-- RESET (70_reset_and_hazards.md R320, R321): every field of the block at its reset value. The parameters are no state,
and the host's events still to come are the environment's (log entry 20). -/
def execReset (s : State) : Result := .next { State.resetOf s.cfg with events := s.events }

end Sys2Proof.Machine
end

