-- ==== Sys2Proof/Machine/StatusOutputs.lean ====
section
/-! DEFINITION. Status, counter, triggers, outputs and post-chain taps (40_bus_interface.md R145 to R151, R169 to R171). -/

namespace Sys2Proof.Machine

/-- RD_STATUS (40_bus_interface.md R145). -/
def execRdStatus (s : State) : Result := respond (statusRead s.status) s

/-- WR_STATUS (40_bus_interface.md R146). -/
def execWrStatus (d : Word) (s : State) : Result := update (fun t => { t with status := statusWritten t.status d }) s

/-- RD_TRIG (40_bus_interface.md R147). -/
def execRdTrig (s : State) : Result := respond (trigWord s.voices) s

/-- WR_TRIG (40_bus_interface.md R148). -/
def execWrTrig (d : Word) (s : State) : Result := update (fun t => { t with voices := orTrig d t.voices }) s

/-- RD_SAMPLE_COUNT (40_bus_interface.md R149). -/
def execRdSampleCount (s : State) : Result := respond s.sampleCount s

/-- RD_OUT_L (40_bus_interface.md R150). -/
def execRdOutL (s : State) : Result := respond s.outL s

/-- RD_OUT_R (40_bus_interface.md R151). -/
def execRdOutR (s : State) : Result := respond s.outR s

/-- RD_VOICE_SUM (40_bus_interface.md R169). -/
def execRdVoiceSum (s : State) : Result := respond s.tapSum s

/-- RD_DC_OUT (40_bus_interface.md R170). -/
def execRdDcOut (s : State) : Result := respond s.tapDc s

/-- RD_REV_OUT (40_bus_interface.md R171). -/
def execRdRevOut (s : State) : Result := respond s.tapRev s

end Sys2Proof.Machine
end

