-- ==== Sys2Proof/Machine/VoiceRegs.lean ====
section
/-! DEFINITION. The voice blocks (40_bus_interface.md R177 to R188). -/

namespace Sys2Proof.Machine

/-- RD_V_FREQ (40_bus_interface.md R177). -/
def execRdVFreq (v : BitVec 4) (s : State) : Result := readVoice v (fun x => x.sh.freq) s

/-- WR_V_FREQ (40_bus_interface.md R178). -/
def execWrVFreq (v : BitVec 4) (d : Word) (s : State) : Result :=
  writeVoice v (fun x => { x with sh := { x.sh with freq := d } }) s

/-- RD_V_DAMP (40_bus_interface.md R179). -/
def execRdVDamp (v : BitVec 4) (s : State) : Result := readVoice v (fun x => x.sh.damp) s

/-- WR_V_DAMP (40_bus_interface.md R180). -/
def execWrVDamp (v : BitVec 4) (d : Word) (s : State) : Result :=
  writeVoice v (fun x => { x with sh := { x.sh with damp := d } }) s

/-- RD_V_BRIGHT (40_bus_interface.md R181). -/
def execRdVBright (v : BitVec 4) (s : State) : Result := readVoice v (fun x => x.sh.bright) s

/-- WR_V_BRIGHT (40_bus_interface.md R182). -/
def execWrVBright (v : BitVec 4) (d : Word) (s : State) : Result :=
  writeVoice v (fun x => { x with sh := { x.sh with bright := d } }) s

/-- RD_V_LEN (40_bus_interface.md R183). -/
def execRdVLen (v : BitVec 4) (s : State) : Result := readVoice v (fun x => BitVec.ofNat 32 x.len) s

/-- RD_V_POS (40_bus_interface.md R184). -/
def execRdVPos (v : BitVec 4) (s : State) : Result := readVoice v (fun x => BitVec.ofNat 32 x.pos) s

/-- RD_V_FILT (40_bus_interface.md R185). -/
def execRdVFilt (v : BitVec 4) (s : State) : Result := readVoice v (fun x => x.yp) s

/-- RD_V_OUT (40_bus_interface.md R186). -/
def execRdVOut (v : BitVec 4) (s : State) : Result := readVoice v (fun x => x.vout) s

/-- RD_V_SEED (40_bus_interface.md R187). -/
def execRdVSeed (v : BitVec 4) (s : State) : Result := readVoice v (fun x => x.seed) s

/-- WR_V_SEED (40_bus_interface.md R188). -/
def execWrVSeed (v : BitVec 4) (d : Word) (s : State) : Result :=
  writeVoice v (fun x => { x with seed := seedWritten d }) s

end Sys2Proof.Machine
end

