-- ==== Sys2Proof/Machine/Dispatch.lean ====
section
/-! DEFINITION. Which meaning each operation has. -/

namespace Sys2Proof.Machine

def exec (i : Instr) (s : State) : Host.Outcome State Fault Refusal :=
  match i with
  | .rdId => Sys2Proof.Machine.execRdId s
  | .rdConfig => Sys2Proof.Machine.execRdConfig s
  | .rdCtrl => Sys2Proof.Machine.execRdCtrl s
  | .wrCtrl d => Sys2Proof.Machine.execWrCtrl d s
  | .rdCmd => Sys2Proof.Machine.execRdCmd s
  | .cmdNop => Sys2Proof.Machine.execCmdNop s
  | .cmdCommit => Sys2Proof.Machine.execCmdCommit s
  | .cmdTick => Sys2Proof.Machine.execCmdTick s
  | .cmdClear => Sys2Proof.Machine.execCmdClear s
  | .cmdReserved d => Sys2Proof.Machine.execCmdReserved d s
  | .rdStatus => Sys2Proof.Machine.execRdStatus s
  | .wrStatus d => Sys2Proof.Machine.execWrStatus d s
  | .rdSampleCount => Sys2Proof.Machine.execRdSampleCount s
  | .rdTrig => Sys2Proof.Machine.execRdTrig s
  | .wrTrig d => Sys2Proof.Machine.execWrTrig d s
  | .rdOutL => Sys2Proof.Machine.execRdOutL s
  | .rdOutR => Sys2Proof.Machine.execRdOutR s
  | .rdDlSel => Sys2Proof.Machine.execRdDlSel s
  | .wrDlSel d => Sys2Proof.Machine.execWrDlSel d s
  | .rdDlData => Sys2Proof.Machine.execRdDlData s
  | .rdVibDepth => Sys2Proof.Machine.execRdVibDepth s
  | .wrVibDepth d => Sys2Proof.Machine.execWrVibDepth d s
  | .rdTremDepth => Sys2Proof.Machine.execRdTremDepth s
  | .wrTremDepth d => Sys2Proof.Machine.execWrTremDepth d s
  | .rdToneDepth => Sys2Proof.Machine.execRdToneDepth s
  | .wrToneDepth d => Sys2Proof.Machine.execWrToneDepth d s
  | .rdRevFb => Sys2Proof.Machine.execRdRevFb s
  | .wrRevFb d => Sys2Proof.Machine.execWrRevFb d s
  | .rdRevMix => Sys2Proof.Machine.execRdRevMix s
  | .wrRevMix d => Sys2Proof.Machine.execWrRevMix d s
  | .rdDrive => Sys2Proof.Machine.execRdDrive s
  | .wrDrive d => Sys2Proof.Machine.execWrDrive d s
  | .rdMakeup => Sys2Proof.Machine.execRdMakeup s
  | .wrMakeup d => Sys2Proof.Machine.execWrMakeup d s
  | .rdVoiceSum => Sys2Proof.Machine.execRdVoiceSum s
  | .rdDcOut => Sys2Proof.Machine.execRdDcOut s
  | .rdRevOut => Sys2Proof.Machine.execRdRevOut s
  | .rdLfoFreq k => Sys2Proof.Machine.execRdLfoFreq k s
  | .wrLfoFreq k d => Sys2Proof.Machine.execWrLfoFreq k d s
  | .rdLfoPhase k => Sys2Proof.Machine.execRdLfoPhase k s
  | .rdLfoOut k => Sys2Proof.Machine.execRdLfoOut k s
  | .rdLfoCos k => Sys2Proof.Machine.execRdLfoCos k s
  | .rdVFreq v => Sys2Proof.Machine.execRdVFreq v s
  | .wrVFreq v d => Sys2Proof.Machine.execWrVFreq v d s
  | .rdVDamp v => Sys2Proof.Machine.execRdVDamp v s
  | .wrVDamp v d => Sys2Proof.Machine.execWrVDamp v d s
  | .rdVBright v => Sys2Proof.Machine.execRdVBright v s
  | .wrVBright v d => Sys2Proof.Machine.execWrVBright v d s
  | .rdVLen v => Sys2Proof.Machine.execRdVLen v s
  | .rdVPos v => Sys2Proof.Machine.execRdVPos v s
  | .rdVFilt v => Sys2Proof.Machine.execRdVFilt v s
  | .rdVOut v => Sys2Proof.Machine.execRdVOut v s
  | .rdVSeed v => Sys2Proof.Machine.execRdVSeed v s
  | .wrVSeed v d => Sys2Proof.Machine.execWrVSeed v d s
  | .roWrite a d => Sys2Proof.Machine.execRoWrite a d s
  | .invalid w r a d => Sys2Proof.Machine.execInvalid w r a d s
  | .strobe => Sys2Proof.Machine.execStrobe s
  | .strobeDrop => Sys2Proof.Machine.execStrobeDrop s
  | .reset => Sys2Proof.Machine.execReset s

end Sys2Proof.Machine
end

