-- ==== Sys2Proof/Machine/AddressMap.lean ====
section
/-! DEFINITION. The register map of 30_encoding.md R102 to R105, once as a table from addresses to registers and once as the
address of each register. -/

namespace Sys2Proof.Machine

/-- The registers of an LFO block (R104). -/
inductive LfoReg where
  | freq | phase | out | cos
deriving DecidableEq, Repr

/-- The registers of a voice block (R105). -/
inductive VoiceReg where
  | freq | damp | bright | len | pos | filt | out | seed
deriving DecidableEq, Repr

/-- The mapped registers (R103 to R105). -/
inductive Reg where
  | id | config | ctrl | cmd | status | sampleCount | trig | outL | outR | dlSel | dlData
  | vibDepth | tremDepth | toneDepth | revFb | revMix | drive | makeup
  | voiceSum | dcOut | revOut
  | lfo (r : LfoReg) (i : BitVec 2)
  | voice (r : VoiceReg) (v : BitVec 4)
deriving DecidableEq, Repr

/-- The global registers by OFF (R103). -/
def globalTable : List (Nat × Reg) :=
  [(0x000, .id), (0x004, .config), (0x008, .ctrl), (0x00C, .cmd), (0x010, .status), (0x014, .sampleCount),
   (0x018, .trig), (0x01C, .outL), (0x020, .outR), (0x024, .dlSel), (0x028, .dlData),
   (0x040, .vibDepth), (0x044, .tremDepth), (0x048, .toneDepth), (0x04C, .revFb), (0x050, .revMix),
   (0x054, .drive), (0x058, .makeup),
   (0x060, .voiceSum), (0x064, .dcOut), (0x068, .revOut)]

/-- The registers of an LFO block by ROFF (R104). -/
def lfoTable : List (Nat × LfoReg) := [(0x0, .freq), (0x4, .phase), (0x8, .out), (0xC, .cos)]

/-- The registers of a voice block by ROFF (R105). -/
def voiceTable : List (Nat × VoiceReg) :=
  [(0x00, .freq), (0x04, .damp), (0x08, .bright), (0x0C, .len), (0x10, .pos), (0x14, .filt), (0x18, .out),
   (0x1C, .seed)]

/-- The register mapped at a byte address of a block with n voices, if any (R102). -/
def regAt (n : Nat) (a : BitVec 12) : Option Reg :=
  let x := a.toNat
  if x < 0x100 then globalTable.lookup x
  else if x < 0x130 then (lfoTable.lookup (x % 16)).map fun r => .lfo r (BitVec.ofNat 2 (x / 16 % 4))
  else if x < 0x200 then none
  else if x < 0x400 then
    if x / 32 % 16 < n then (voiceTable.lookup (x % 32)).map fun r => .voice r (BitVec.ofNat 4 (x / 32 % 16))
    else none
  else none

/-- ROFF of an LFO register (R104). -/
def LfoReg.roff : LfoReg → Nat
  | .freq => 0x0 | .phase => 0x4 | .out => 0x8 | .cos => 0xC

/-- ROFF of a voice register (R105). -/
def VoiceReg.roff : VoiceReg → Nat
  | .freq => 0x00 | .damp => 0x04 | .bright => 0x08 | .len => 0x0C
  | .pos => 0x10 | .filt => 0x14 | .out => 0x18 | .seed => 0x1C

/-- ADDR of a register (R103 to R105). -/
def Reg.addr : Reg → BitVec 12
  | .id => 0x000 | .config => 0x004 | .ctrl => 0x008 | .cmd => 0x00C | .status => 0x010 | .sampleCount => 0x014
  | .trig => 0x018 | .outL => 0x01C | .outR => 0x020 | .dlSel => 0x024 | .dlData => 0x028
  | .vibDepth => 0x040 | .tremDepth => 0x044 | .toneDepth => 0x048 | .revFb => 0x04C | .revMix => 0x050
  | .drive => 0x054 | .makeup => 0x058
  | .voiceSum => 0x060 | .dcOut => 0x064 | .revOut => 0x068
  | .lfo r i => BitVec.ofNat 12 (0x100 + 16 * i.toNat + r.roff)
  | .voice r v => BitVec.ofNat 12 (0x200 + 32 * v.toNat + r.roff)

/-- The registers whose access is RO in R103 to R105: the list of 40_bus_interface.md R133. -/
def Reg.readOnly : Reg → Bool
  | .id | .config | .sampleCount | .outL | .outR | .dlData | .voiceSum | .dcOut | .revOut => true
  | .ctrl | .cmd | .status | .trig | .dlSel => false
  | .vibDepth | .tremDepth | .toneDepth | .revFb | .revMix | .drive | .makeup => false
  | .lfo .phase _ | .lfo .out _ | .lfo .cos _ => true
  | .lfo .freq _ => false
  | .voice .len _ | .voice .pos _ | .voice .filt _ | .voice .out _ => true
  | .voice .freq _ | .voice .damp _ | .voice .bright _ | .voice .seed _ => false

/-- The address has bits 1:0 != 00 (20_memory.md R84). -/
def misaligned (a : BitVec 12) : Bool := a.extractLsb' 0 2 != 0#2

/-- A read-only register stands at a. -/
def readOnlyAt (n : Nat) (a : BitVec 12) : Bool := (regAt n a).any Reg.readOnly

/-- The transaction is Invalid by R108: RSV_HDR, MISALIGNED or UNMAPPED. -/
def isInvalid (n : Nat) (r : BitVec 3) (a : BitVec 12) : Bool :=
  r != 0#3 || misaligned a || (regAt n a).isNone

/-- The address of a register in a byte-addressed host's map (20_memory.md R89; log entry 17). -/
def hostAddress (a : BitVec 12) : Nat := Config.ksmBase + a.toNat

/-- The byte of a register word that a byte-addressed host sees k bytes above that address: little-endian lanes
(20_memory.md R82; log entry 18). -/
def laneByte (w : Word) (k : Fin 4) : BitVec 8 := w.extractLsb' (8 * k.val) 8

end Sys2Proof.Machine
end

