-- ==== Sys2Proof/WellFormed.lean ====
section
/-! DEFINITION. Which terms of Instr an encoding of a block with n voices stands for. -/

namespace Sys2Proof

open Sys2Proof.Machine

/-- The LFO index is 0, 1 or 2 (30_encoding.md R104). -/
def lfoIndexOk (i : BitVec 2) : Bool := i != 3#2

/-- The voice index is below N_VOICES (30_encoding.md R105). -/
def voiceIndexOk (n : Nat) (v : BitVec 4) : Bool := decide (v.toNat < n)

/-- A CMD word other than the four commands (30_encoding.md R107). -/
def reservedCmd (d : Word) : Bool := decide (3 < d.toNat)

/-- The operation is one that a block with n voices decodes some event to (30_encoding.md R108). -/
def Instr.wf (n : Nat) : Instr → Bool
  | .rdId => true
  | .rdConfig => true
  | .rdCtrl => true
  | .wrCtrl _ => true
  | .rdCmd => true
  | .cmdNop => true
  | .cmdCommit => true
  | .cmdTick => true
  | .cmdClear => true
  | .cmdReserved d => reservedCmd d
  | .rdStatus => true
  | .wrStatus _ => true
  | .rdSampleCount => true
  | .rdTrig => true
  | .wrTrig _ => true
  | .rdOutL => true
  | .rdOutR => true
  | .rdDlSel => true
  | .wrDlSel _ => true
  | .rdDlData => true
  | .rdVibDepth => true
  | .wrVibDepth _ => true
  | .rdTremDepth => true
  | .wrTremDepth _ => true
  | .rdToneDepth => true
  | .wrToneDepth _ => true
  | .rdRevFb => true
  | .wrRevFb _ => true
  | .rdRevMix => true
  | .wrRevMix _ => true
  | .rdDrive => true
  | .wrDrive _ => true
  | .rdMakeup => true
  | .wrMakeup _ => true
  | .rdVoiceSum => true
  | .rdDcOut => true
  | .rdRevOut => true
  | .rdLfoFreq i => lfoIndexOk i
  | .wrLfoFreq i _ => lfoIndexOk i
  | .rdLfoPhase i => lfoIndexOk i
  | .rdLfoOut i => lfoIndexOk i
  | .rdLfoCos i => lfoIndexOk i
  | .rdVFreq v => voiceIndexOk n v
  | .wrVFreq v _ => voiceIndexOk n v
  | .rdVDamp v => voiceIndexOk n v
  | .wrVDamp v _ => voiceIndexOk n v
  | .rdVBright v => voiceIndexOk n v
  | .wrVBright v _ => voiceIndexOk n v
  | .rdVLen v => voiceIndexOk n v
  | .rdVPos v => voiceIndexOk n v
  | .rdVFilt v => voiceIndexOk n v
  | .rdVOut v => voiceIndexOk n v
  | .rdVSeed v => voiceIndexOk n v
  | .wrVSeed v _ => voiceIndexOk n v
  | .roWrite a _ => readOnlyAt n a
  | .invalid _ r a _ => isInvalid n r a
  | .strobe => true
  | .strobeDrop => true
  | .reset => true

end Sys2Proof
end

