-- ==== Sys2Proof/Decode.lean ====
section
/-! DEFINITION. The decoder of 30_encoding.md R108, total on every event, and the encoder. -/

namespace Sys2Proof

open Sys2Proof.Machine

/-- W = HDR[15] (30_encoding.md R100). -/
def hdrWrite (h : BitVec 16) : Bool := h.getLsbD 15

/-- RSV = HDR[14:12]. -/
def hdrReserved (h : BitVec 16) : BitVec 3 := h.extractLsb' 12 3

/-- ADDR = HDR[11:0]. -/
def hdrAddr (h : BitVec 16) : BitVec 12 := h.extractLsb' 0 12

/-- The header with these fields. -/
def mkHdr (w : Bool) (r : BitVec 3) (a : BitVec 12) : BitVec 16 := BitVec.ofBool w ++ r ++ a

/-- The RD_ row of a register (R103 to R105). -/
def readOf : Reg → Instr
  | .id => .rdId
  | .config => .rdConfig
  | .ctrl => .rdCtrl
  | .cmd => .rdCmd
  | .status => .rdStatus
  | .sampleCount => .rdSampleCount
  | .trig => .rdTrig
  | .outL => .rdOutL
  | .outR => .rdOutR
  | .dlSel => .rdDlSel
  | .dlData => .rdDlData
  | .vibDepth => .rdVibDepth
  | .tremDepth => .rdTremDepth
  | .toneDepth => .rdToneDepth
  | .revFb => .rdRevFb
  | .revMix => .rdRevMix
  | .drive => .rdDrive
  | .makeup => .rdMakeup
  | .voiceSum => .rdVoiceSum
  | .dcOut => .rdDcOut
  | .revOut => .rdRevOut
  | .lfo .freq i => .rdLfoFreq i
  | .lfo .phase i => .rdLfoPhase i
  | .lfo .out i => .rdLfoOut i
  | .lfo .cos i => .rdLfoCos i
  | .voice .freq v => .rdVFreq v
  | .voice .damp v => .rdVDamp v
  | .voice .bright v => .rdVBright v
  | .voice .len v => .rdVLen v
  | .voice .pos v => .rdVPos v
  | .voice .filt v => .rdVFilt v
  | .voice .out v => .rdVOut v
  | .voice .seed v => .rdVSeed v

/-- The row that a write to CMD selects by its DATA (R107). -/
def cmdOf (d : Word) : Instr :=
  match d.toNat with
  | 0 => .cmdNop
  | 1 => .cmdCommit
  | 2 => .cmdTick
  | 3 => .cmdClear
  | _ => .cmdReserved d

/-- The row of a write of d to a register at a: ReadOnlyWrite, a command, or the WR_ row (R108). -/
def writeOf (a : BitVec 12) (d : Word) : Reg → Instr
  | .id => .roWrite a d
  | .config => .roWrite a d
  | .ctrl => .wrCtrl d
  | .cmd => cmdOf d
  | .status => .wrStatus d
  | .sampleCount => .roWrite a d
  | .trig => .wrTrig d
  | .outL => .roWrite a d
  | .outR => .roWrite a d
  | .dlSel => .wrDlSel d
  | .dlData => .roWrite a d
  | .vibDepth => .wrVibDepth d
  | .tremDepth => .wrTremDepth d
  | .toneDepth => .wrToneDepth d
  | .revFb => .wrRevFb d
  | .revMix => .wrRevMix d
  | .drive => .wrDrive d
  | .makeup => .wrMakeup d
  | .voiceSum => .roWrite a d
  | .dcOut => .roWrite a d
  | .revOut => .roWrite a d
  | .lfo .freq i => .wrLfoFreq i d
  | .lfo .phase _ => .roWrite a d
  | .lfo .out _ => .roWrite a d
  | .lfo .cos _ => .roWrite a d
  | .voice .freq v => .wrVFreq v d
  | .voice .damp v => .wrVDamp v d
  | .voice .bright v => .wrVBright v d
  | .voice .len _ => .roWrite a d
  | .voice .pos _ => .roWrite a d
  | .voice .filt _ => .roWrite a d
  | .voice .out _ => .roWrite a d
  | .voice .seed v => .wrVSeed v d

/-- `decode(T)` of R108 on a block with n voices: total over all 2^48 transactions. -/
def decodeBus (n : Nat) (h : BitVec 16) (d : Word) : Instr :=
  let a := hdrAddr h
  if hdrReserved h != 0#3 then .invalid (hdrWrite h) (hdrReserved h) a d
  else if misaligned a then .invalid (hdrWrite h) (hdrReserved h) a d
  else match regAt n a with
    | none => .invalid (hdrWrite h) (hdrReserved h) a d
    | some r => if hdrWrite h then writeOf a d r else readOf r

/-- The operation an event asks for (R100, R101, R108). -/
def decode (n : Nat) : Event → Instr
  | .bus h d => decodeBus n h d
  | .strobe => .strobe
  | .strobeDrop => .strobeDrop
  | .reset => .reset

/-- The bus transaction whose 48-bit word T is t: HDR = T[47:32], DATA = T[31:0] (R100). -/
def transaction (t : BitVec 48) : Event := .bus (t.extractLsb' 32 16) (t.extractLsb' 0 32)

/-- The host's question: the operation of the transaction word w, of which nbits bits are given (log entry 15). No
transaction is longer than 48 bits (R110). -/
def decodeTableWord (nbits w : Nat) : Option Instr :=
  if nbits ≤ 48 then some (decode specInstance.nVoices (transaction (BitVec.ofNat 48 (w % 2 ^ nbits)))) else none

/-- The transaction of a read of a register: DATA is written 0 in listings (R100). -/
def readEvent (r : Reg) : Event := .bus (mkHdr false 0#3 r.addr) 0#32

/-- The transaction of a write of d to a register. -/
def writeEvent (r : Reg) (d : Word) : Event := .bus (mkHdr true 0#3 r.addr) d

/-- The event of an operation: its transaction by R100 to R107, or its port event. -/
def encode : Instr → Event
  | .rdId => readEvent .id
  | .rdConfig => readEvent .config
  | .rdCtrl => readEvent .ctrl
  | .wrCtrl d => writeEvent .ctrl d
  | .rdCmd => readEvent .cmd
  | .cmdNop => writeEvent .cmd 0#32
  | .cmdCommit => writeEvent .cmd 1#32
  | .cmdTick => writeEvent .cmd 2#32
  | .cmdClear => writeEvent .cmd 3#32
  | .cmdReserved d => writeEvent .cmd d
  | .rdStatus => readEvent .status
  | .wrStatus d => writeEvent .status d
  | .rdSampleCount => readEvent .sampleCount
  | .rdTrig => readEvent .trig
  | .wrTrig d => writeEvent .trig d
  | .rdOutL => readEvent .outL
  | .rdOutR => readEvent .outR
  | .rdDlSel => readEvent .dlSel
  | .wrDlSel d => writeEvent .dlSel d
  | .rdDlData => readEvent .dlData
  | .rdVibDepth => readEvent .vibDepth
  | .wrVibDepth d => writeEvent .vibDepth d
  | .rdTremDepth => readEvent .tremDepth
  | .wrTremDepth d => writeEvent .tremDepth d
  | .rdToneDepth => readEvent .toneDepth
  | .wrToneDepth d => writeEvent .toneDepth d
  | .rdRevFb => readEvent .revFb
  | .wrRevFb d => writeEvent .revFb d
  | .rdRevMix => readEvent .revMix
  | .wrRevMix d => writeEvent .revMix d
  | .rdDrive => readEvent .drive
  | .wrDrive d => writeEvent .drive d
  | .rdMakeup => readEvent .makeup
  | .wrMakeup d => writeEvent .makeup d
  | .rdVoiceSum => readEvent .voiceSum
  | .rdDcOut => readEvent .dcOut
  | .rdRevOut => readEvent .revOut
  | .rdLfoFreq i => readEvent (.lfo .freq i)
  | .wrLfoFreq i d => writeEvent (.lfo .freq i) d
  | .rdLfoPhase i => readEvent (.lfo .phase i)
  | .rdLfoOut i => readEvent (.lfo .out i)
  | .rdLfoCos i => readEvent (.lfo .cos i)
  | .rdVFreq v => readEvent (.voice .freq v)
  | .wrVFreq v d => writeEvent (.voice .freq v) d
  | .rdVDamp v => readEvent (.voice .damp v)
  | .wrVDamp v d => writeEvent (.voice .damp v) d
  | .rdVBright v => readEvent (.voice .bright v)
  | .wrVBright v d => writeEvent (.voice .bright v) d
  | .rdVLen v => readEvent (.voice .len v)
  | .rdVPos v => readEvent (.voice .pos v)
  | .rdVFilt v => readEvent (.voice .filt v)
  | .rdVOut v => readEvent (.voice .out v)
  | .rdVSeed v => readEvent (.voice .seed v)
  | .wrVSeed v d => writeEvent (.voice .seed v) d
  | .roWrite a d => .bus (mkHdr true 0#3 a) d
  | .invalid w r a d => .bus (mkHdr w r a) d
  | .strobe => .strobe
  | .strobeDrop => .strobeDrop
  | .reset => .reset

end Sys2Proof
end

