-- ==== Sys2Proof/Machine/Fetch.lean ====
section
/-! DEFINITION. Taking the next event: the block fetches no instruction, its operations come from the host (00_scope.md R7). -/

namespace Sys2Proof.Machine

/-- The next event's operation, and the state with that event taken (41_tick_sequence.md R209; log entry 1). -/
def State.fetch (s : State) : Option (Instr × State) :=
  match s.events with
  | [] => none
  | e :: es => some (decode s.cfg.nVoices e, { s with events := es })

/-- The state with one more event, to be taken first. -/
def State.present (e : Event) (s : State) : State := { s with events := e :: s.events }

end Sys2Proof.Machine
end

