-- ==== Sys2Proof/Machine/Step.lean ====
section
/-! DEFINITION. One step of the block: the next host event, decoded and run (41_tick_sequence.md R209, 20_memory.md R85). -/

namespace Sys2Proof.Machine

/-- One atomic step: without an event the block waits (log entry 2). -/
def step (s : State) : Host.Outcome State Fault Refusal :=
  match s.fetch with
  | some (i, t) => exec i t
  | none => .next s

/-- s with the transaction w (its nbits bits, the rest of the 48 zero) as its next event. -/
def State.withFetchWord (s : State) (nbits w : Nat) : State :=
  s.present (transaction (BitVec.ofNat 48 (w % 2 ^ nbits)))

end Sys2Proof.Machine
end

