-- ==== Sys2Proof/Machine/Build.lean ====
section
/-! DEFINITION. Building a block with given parameters. -/

namespace Sys2Proof.Machine

/-- The block with parameters c, right after its first RESET; a configuration outside the constraints of 00_scope.md R8
is refused (93_implementation_defined.md section 3; log entry 5). -/
def State.build (c : Config) : Host.Outcome State Fault Refusal :=
  if configOk c then .next (State.resetOf c) else .refused .configRefused

end Sys2Proof.Machine
end

