-- ==== Sys2Proof/Safety.lean ====
section
/-! DEFINITION. What a good state is: the invariants of 10_state.md R58 and the bounds behind 44_post_chain.md R286, and the
classes of operations that claims speak of. -/

namespace Sys2Proof.Machine

/-- Every entry of the memory names a cell below n. -/
abbrev Memory.below (n : Nat) (m : Memory) : Prop := ∀ e ∈ m, e.1 < n

/-- A memory of n cells in its canonical form. -/
abbrev Memory.ok (n : Nat) (m : Memory) : Prop := Memory.wf m ∧ Memory.below n m

/-! ### The invariant of the whole state -/

/-- I1 and I3 of R58 for one voice, with its memory in canonical form and no larger than DL_CAP. -/
abbrev Voice.ok (c : Config) (v : Voice) : Prop :=
  lMin ≤ v.len ∧ v.len ≤ dlCap c ∧ v.pos < v.len ∧ v.seed ≠ 0 ∧ Memory.ok (dlCap c) v.buf

/-- I2 of R58 for one comb of n cells. -/
abbrev Comb.ok (n : Nat) (x : Comb) : Prop := x.idx < n ∧ Memory.ok n x.buf

/-- I2 of R58 for one allpass of n cells. -/
abbrev Allpass.ok (n : Nat) (x : Allpass) : Prop := x.idx < n ∧ Memory.ok n x.buf

/-- Hardwired and reserved bits read as their registers' rules say (10_state.md R33, R53, R55). -/
abbrev State.bitsOk (s : State) : Prop :=
  s.ctrl = ctrlWritten s.ctrl ∧ s.status = statusRead s.status ∧ s.dlSel = dlSelBits s.dlSel

/-- Both channels carry the same sample (44_post_chain.md R281). -/
abbrev State.mono (s : State) : Prop := s.outL = s.outR ∧ s.portL = s.portR

/-- The invariant that every step keeps: the parameters meet R8, each unit has as many records as the parameters say,
I1 to I3 of R58 hold, the memories are canonical, and the hardwired bits and the two channels are right. -/
abbrev State.Inv (s : State) : Prop :=
  configOk s.cfg = true ∧ s.voices.length = s.cfg.nVoices ∧ (∀ v ∈ s.voices, Voice.ok s.cfg v) ∧
    List.Forall₂ Comb.ok s.cfg.combLen s.combs ∧ List.Forall₂ Allpass.ok s.cfg.apLen s.allpasses ∧
    s.bitsOk ∧ s.mono

/-! ### Bounds on the audio values -/

/-- |w| <= b on the values; false of a NaN and of an infinity. -/
abbrev absLe (b : Nat) (w : Word) : Prop := isFinite w = true ∧ fixMag w ≤ 2 ^ 149 * b

/-- Every cell of the memory is at most b in magnitude. -/
abbrev Memory.bounded (b : Nat) (m : Memory) : Prop := ∀ e ∈ m, absLe b e.2

/-- The voice holds samples in [-1, 1] only (43_voice_engine.md R255). -/
abbrev Voice.bounded (v : Voice) : Prop := Memory.bounded 1 v.buf ∧ absLe 1 v.yp ∧ absLe 1 v.vout

/-- The invariant of the voices' samples (43_voice_engine.md R255, R256). -/
abbrev State.VoicesBounded (s : State) : Prop := ∀ v ∈ s.voices, Voice.bounded v

/-- The parameters are those of the spec's instance but for N_VOICES with its seeds and frequencies, NL_COEF, Tanh32
(all OPEN, 93_implementation_defined.md section 3) and HEADROOM, which follows N_VOICES. -/
abbrev instanceButOpen (c : Config) : Prop :=
  c = { specInstance with voices := c.voices, nlCoef := c.nlCoef, headroom := c.headroom, tanh := c.tanh }

/-- The bounds of the post chain's state for such parameters (44_post_chain.md R283 to R286): whatever N_VOICES <= 16
and HEADROOM <= 1, the sum is at most 16, the DC blocker at most 8192, and so on down the chain. -/
abbrev State.PostBounded (s : State) : Prop :=
  absLe 16 s.dcX1 ∧ absLe 8192 s.dcY1 ∧ absLe 16 s.tapSum ∧ absLe 8192 s.tapDc ∧ absLe (2 ^ 23) s.tapRev ∧
    (∀ x ∈ s.combs, Memory.bounded 524288 x.buf ∧ absLe 524800 x.lp) ∧
    List.Forall₂ (fun b x => Memory.bounded b x.buf) [2 ^ 20, 3 * 2 ^ 20] s.allpasses

/-- The outputs and the port are in [-1, 1] (44_post_chain.md R285). -/
abbrev State.OutBounded (s : State) : Prop := absLe 1 s.outL ∧ absLe 1 s.outR ∧ absLe 1 s.portL ∧ absLe 1 s.portR

/-! ### Classes of operations -/

/-- The operation is a valid bus read (40_bus_interface.md R130). -/
def isRead : Instr → Bool
  | .rdId => true
  | .rdConfig => true
  | .rdCtrl => true
  | .wrCtrl _ => false
  | .rdCmd => true
  | .cmdNop => false
  | .cmdCommit => false
  | .cmdTick => false
  | .cmdClear => false
  | .cmdReserved _ => false
  | .rdStatus => true
  | .wrStatus _ => false
  | .rdSampleCount => true
  | .rdTrig => true
  | .wrTrig _ => false
  | .rdOutL => true
  | .rdOutR => true
  | .rdDlSel => true
  | .wrDlSel _ => false
  | .rdDlData => true
  | .rdVibDepth => true
  | .wrVibDepth _ => false
  | .rdTremDepth => true
  | .wrTremDepth _ => false
  | .rdToneDepth => true
  | .wrToneDepth _ => false
  | .rdRevFb => true
  | .wrRevFb _ => false
  | .rdRevMix => true
  | .wrRevMix _ => false
  | .rdDrive => true
  | .wrDrive _ => false
  | .rdMakeup => true
  | .wrMakeup _ => false
  | .rdVoiceSum => true
  | .rdDcOut => true
  | .rdRevOut => true
  | .rdLfoFreq _ => true
  | .wrLfoFreq _ _ => false
  | .rdLfoPhase _ => true
  | .rdLfoOut _ => true
  | .rdLfoCos _ => true
  | .rdVFreq _ => true
  | .wrVFreq _ _ => false
  | .rdVDamp _ => true
  | .wrVDamp _ _ => false
  | .rdVBright _ => true
  | .wrVBright _ _ => false
  | .rdVLen _ => true
  | .rdVPos _ => true
  | .rdVFilt _ => true
  | .rdVOut _ => true
  | .rdVSeed _ => true
  | .wrVSeed _ _ => false
  | .roWrite _ _ => false
  | .invalid _ _ _ _ => false
  | .strobe => false
  | .strobeDrop => false
  | .reset => false

/-- The operation makes a tick in the state s, enabled or silent: TICK_SRC decides which source does
(40_bus_interface.md R142, 41_tick_sequence.md R201). -/
def makesTick (i : Instr) (s : State) : Bool :=
  match i with
  | .rdId => false
  | .rdConfig => false
  | .rdCtrl => false
  | .wrCtrl _ => false
  | .rdCmd => false
  | .cmdNop => false
  | .cmdCommit => false
  | .cmdTick => ctrlTickSrc s.ctrl
  | .cmdClear => false
  | .cmdReserved _ => false
  | .rdStatus => false
  | .wrStatus _ => false
  | .rdSampleCount => false
  | .rdTrig => false
  | .wrTrig _ => false
  | .rdOutL => false
  | .rdOutR => false
  | .rdDlSel => false
  | .wrDlSel _ => false
  | .rdDlData => false
  | .rdVibDepth => false
  | .wrVibDepth _ => false
  | .rdTremDepth => false
  | .wrTremDepth _ => false
  | .rdToneDepth => false
  | .wrToneDepth _ => false
  | .rdRevFb => false
  | .wrRevFb _ => false
  | .rdRevMix => false
  | .wrRevMix _ => false
  | .rdDrive => false
  | .wrDrive _ => false
  | .rdMakeup => false
  | .wrMakeup _ => false
  | .rdVoiceSum => false
  | .rdDcOut => false
  | .rdRevOut => false
  | .rdLfoFreq _ => false
  | .wrLfoFreq _ _ => false
  | .rdLfoPhase _ => false
  | .rdLfoOut _ => false
  | .rdLfoCos _ => false
  | .rdVFreq _ => false
  | .wrVFreq _ _ => false
  | .rdVDamp _ => false
  | .wrVDamp _ _ => false
  | .rdVBright _ => false
  | .wrVBright _ _ => false
  | .rdVLen _ => false
  | .rdVPos _ => false
  | .rdVFilt _ => false
  | .rdVOut _ => false
  | .rdVSeed _ => false
  | .wrVSeed _ _ => false
  | .roWrite _ _ => false
  | .invalid _ _ _ _ => false
  | .strobe => !ctrlTickSrc s.ctrl
  | .strobeDrop => false
  | .reset => false

end Sys2Proof.Machine
end

