-- ==== Sys2Proof/Certificates/Slice0/Obligations.lean ====
section
/-! DEFINITION. The statements for the provers. A step that is not a tick leaves portValid at 0 and drives a response only
where it is a bus read (41_tick_sequence.md R207; log entry 3): the statements write that as
`portValid := false` and `rdata`. -/

open Sys2Proof Sys2Proof.Machine

/-! ### Encoding -/

/-- Decoding the event of a well-formed operation gives the operation back, for every operand. -/
def Obligations.DecodeInvertsEncode : Prop :=
  ∀ (n : Nat) (i : Instr), Instr.wf n i = true → decode n (encode i) = i

/-- Every transaction decodes to a well-formed operation, whose encoding is that transaction but for the ignored DATA
of a valid read (30_encoding.md R100, R108). -/
def Obligations.EncodeInvertsDecode : Prop :=
  ∀ (n : Nat) (h : BitVec 16) (d : Word),
    Instr.wf n (decode n (.bus h d)) = true ∧
      encode (decode n (.bus h d)) =
        .bus h (if hdrWrite h || isInvalid n (hdrReserved h) (hdrAddr h) then d else 0#32)

/-- The checks of `decode(T)` and their order (30_encoding.md R108). -/
def Obligations.DecodeChecksInOrder : Prop :=
  ∀ (n : Nat) (h : BitVec 16) (d : Word),
    let w := h.getLsbD 15
    let r := h.extractLsb' 12 3
    let a := h.extractLsb' 0 12
    (r ≠ 0#3 → decode n (.bus h d) = .invalid w r a d) ∧
    (r = 0#3 → a.extractLsb' 0 2 ≠ 0#2 → decode n (.bus h d) = .invalid w r a d) ∧
    (r = 0#3 → a.extractLsb' 0 2 = 0#2 → regAt n a = none → decode n (.bus h d) = .invalid w r a d) ∧
    ∀ g, r = 0#3 → a.extractLsb' 0 2 = 0#2 → regAt n a = some g →
      (w = true → g.readOnly = true → decode n (.bus h d) = .roWrite a d) ∧
      (w = true → a = 0x00C#12 →
        (d = 0#32 → decode n (.bus h d) = .cmdNop) ∧ (d = 1#32 → decode n (.bus h d) = .cmdCommit) ∧
        (d = 2#32 → decode n (.bus h d) = .cmdTick) ∧ (d = 3#32 → decode n (.bus h d) = .cmdClear) ∧
        (3 < d.toNat → decode n (.bus h d) = .cmdReserved d)) ∧
      (w = true → g.readOnly = false → a ≠ 0x00C#12 → decode n (.bus h d) = writeOf a d g) ∧
      (w = false → decode n (.bus h d) = readOf g)

/-- The gaps, the reserved ranges and the blocks of voices that a block of n voices does not have are unmapped
(30_encoding.md R102, 93_implementation_defined.md V3). -/
def Obligations.ReservedRangesAreInvalid : Prop :=
  ∀ (n : Nat) (h : BitVec 16) (d : Word),
    let a := (hdrAddr h).toNat
    ((0x02C ≤ a ∧ a < 0x040) ∨ (0x05C ≤ a ∧ a < 0x060) ∨ (0x06C ≤ a ∧ a < 0x100) ∨ (0x130 ≤ a ∧ a < 0x200) ∨
      (0x200 ≤ a ∧ a < 0x400 ∧ n ≤ (a - 0x200) / 32) ∨ 0x400 ≤ a) →
    decode n (.bus h d) = .invalid (hdrWrite h) (hdrReserved h) (hdrAddr h) d

/-- Transaction words written out from the tables of 30_encoding.md decode to their rows. -/
def Obligations.WrittenWordsDecode : Prop :=
  decode 8 (.bus 0x8200#16 0x435C0000#32) = .wrVFreq 0#4 0x435C0000#32 ∧
  decode 8 (.bus 0x0008#16 0#32) = .rdCtrl ∧
  decode 8 (.bus 0x800C#16 1#32) = .cmdCommit ∧
  decode 8 (.bus 0x0118#16 0#32) = .rdLfoOut 1#2 ∧
  decode 8 (.bus 0x02E0#16 0#32) = .rdVFreq 7#4 ∧
  decode 8 (.bus 0x0300#16 0#32) = .invalid false 0#3 0x300#12 0#32 ∧
  decode 8 (.bus 0x810C#16 5#32) = .roWrite 0x10C#12 5#32 ∧
  decode 8 (.bus 0x800C#16 0x12#32) = .cmdReserved 0x12#32

/-! ### The step -/

/-- A step runs the operation of the next event on the state with that event taken; without an event the block waits,
unchanged, which is the model's choice (log entry 2). -/
def Obligations.StepRunsNextEvent : Prop :=
  (∀ (s : State) (e : Event) (es : List Event),
    s.events = e :: es → step s = exec (decode s.cfg.nVoices e) { s with events := es }) ∧
  ∀ s : State, s.events = [] → step s = .next s

/-! ### Bus reads -/

/-- The reads of the global registers that are one word of the state or a constant: encoding, response, and no other
change. -/
def Obligations.GlobalReadsAnswer : Prop :=
  ∀ (n : Nat) (x : Word) (s : State),
    let answers := fun (h : BitVec 16) (i : Instr) (w : Word) =>
      decode n (.bus h x) = i ∧ exec i s = .next { s with portValid := false, rdata := some w }
    answers 0x0000#16 .rdId 0x4B534D01#32 ∧ answers 0x0008#16 .rdCtrl s.ctrl ∧ answers 0x000C#16 .rdCmd 0#32 ∧
    answers 0x0010#16 .rdStatus ((s.status.extractLsb' 0 3).setWidth 32) ∧
    answers 0x0014#16 .rdSampleCount s.sampleCount ∧ answers 0x001C#16 .rdOutL s.outL ∧
    answers 0x0020#16 .rdOutR s.outR ∧ answers 0x0024#16 .rdDlSel (s.dlSel &&& 0x000FFFFF#32) ∧
    answers 0x0060#16 .rdVoiceSum s.tapSum ∧ answers 0x0064#16 .rdDcOut s.tapDc ∧ answers 0x0068#16 .rdRevOut s.tapRev

/-- The reads of the seven global shadowed parameters answer the shadow word (40_bus_interface.md R155 to R167). -/
def Obligations.GlobalShadowReadsAnswer : Prop :=
  ∀ (n : Nat) (x : Word) (s : State),
    let answers := fun (h : BitVec 16) (i : Instr) (w : Word) =>
      decode n (.bus h x) = i ∧ exec i s = .next { s with portValid := false, rdata := some w }
    answers 0x0040#16 .rdVibDepth s.shGlobal.vibDepth ∧ answers 0x0044#16 .rdTremDepth s.shGlobal.tremDepth ∧
    answers 0x0048#16 .rdToneDepth s.shGlobal.toneDepth ∧ answers 0x004C#16 .rdRevFb s.shGlobal.revFb ∧
    answers 0x0050#16 .rdRevMix s.shGlobal.revMix ∧ answers 0x0054#16 .rdDrive s.shGlobal.drive ∧
    answers 0x0058#16 .rdMakeup s.shGlobal.makeup

/-- CONFIG reads the parameters, each in its field (10_state.md R35, 40_bus_interface.md R136). -/
def Obligations.ConfigReadsParameters : Prop :=
  (∀ (n : Nat) (x : Word), decode n (.bus 0x0004#16 x) = .rdConfig) ∧
  ∀ s : State, ∃ w : Word, exec .rdConfig s = .next { s with portValid := false, rdata := some w } ∧
    w.extractLsb' 0 5 = BitVec.ofNat 5 s.cfg.nVoices ∧ w.extractLsb' 5 2 = waveCode s.cfg.wave0 ∧
    w.extractLsb' 7 2 = waveCode s.cfg.wave1 ∧ w.extractLsb' 9 2 = waveCode s.cfg.wave2 ∧
    w.extractLsb' 11 4 = BitVec.ofNat 4 s.cfg.log2Lut ∧ w.extractLsb' 15 1 = 0#1 ∧
    w.extractLsb' 16 16 = BitVec.ofNat 16 (dlCap s.cfg) ∧ (s.cfg = specInstance → w = 0x09605488#32)

/-- Bit k of TRIG reads the pending flag of voice k, and 0 where there is no voice k (40_bus_interface.md R147). -/
def Obligations.TrigReadsPendingMask : Prop :=
  (∀ (n : Nat) (x : Word), decode n (.bus 0x0018#16 x) = .rdTrig) ∧
  ∀ s : State, ∃ w : Word, exec .rdTrig s = .next { s with portValid := false, rdata := some w } ∧
    ∀ k < 32, w.getLsbD k = ((s.voices[k]?).any fun x => x.trigPending)

/-- DL_DATA reads the cell that DL_SEL selects, and 0 where the selection is out of range (40_bus_interface.md R154). -/
def Obligations.DlDataReadsSelectedCell : Prop :=
  (∀ (n : Nat) (x : Word), decode n (.bus 0x0028#16 x) = .rdDlData) ∧
  ∀ s : State,
    let v := s.dlSel.toNat / 2 ^ 16 % 16
    let k := s.dlSel.toNat % 2 ^ 16
    (∀ x : Voice, s.voices[v]? = some x → k < dlCap s.cfg →
      exec .rdDlData s = .next { s with portValid := false, rdata := some (Memory.read x.buf k) }) ∧
    (s.voices.length ≤ v ∨ dlCap s.cfg ≤ k →
      exec .rdDlData s = .next { s with portValid := false, rdata := some 0#32 })

/-- The reads of an LFO block (40_bus_interface.md R172 to R176). -/
def Obligations.LfoReadsAnswer : Prop :=
  ∀ (n : Nat) (y : Word) (s : State) (i : BitVec 2) (x : Lfo), s.lfos.get i = some x →
    let answers := fun (o : BitVec 16) (j : Instr) (w : Word) =>
      decode n (.bus (0x0100#16 + 16#16 * i.setWidth 16 + o) y) = j ∧
        exec j s = .next { s with portValid := false, rdata := some w }
    answers 0x0#16 (.rdLfoFreq i) x.shFreq ∧ answers 0x4#16 (.rdLfoPhase i) x.phase ∧
    answers 0x8#16 (.rdLfoOut i)
      (waveOut s.cfg (if i = 0#2 then s.cfg.wave0 else if i = 1#2 then s.cfg.wave1 else s.cfg.wave2) x.phase) ∧
    answers 0xC#16 (.rdLfoCos i) (cosOut s.cfg x.phase)

/-- The reads of a voice block (40_bus_interface.md R177, R179, R181, R183 to R187). -/
def Obligations.VoiceReadsAnswer : Prop :=
  ∀ (y : Word) (s : State) (v : BitVec 4) (x : Voice), s.voices[v.toNat]? = some x →
    let answers := fun (o : BitVec 16) (j : Instr) (w : Word) =>
      decode s.voices.length (.bus (0x0200#16 + 32#16 * v.setWidth 16 + o) y) = j ∧
        exec j s = .next { s with portValid := false, rdata := some w }
    answers 0x00#16 (.rdVFreq v) x.sh.freq ∧ answers 0x04#16 (.rdVDamp v) x.sh.damp ∧
    answers 0x08#16 (.rdVBright v) x.sh.bright ∧ answers 0x0C#16 (.rdVLen v) (BitVec.ofNat 32 x.len) ∧
    answers 0x10#16 (.rdVPos v) (BitVec.ofNat 32 x.pos) ∧ answers 0x14#16 (.rdVFilt v) x.yp ∧
    answers 0x18#16 (.rdVOut v) x.vout ∧ answers 0x1C#16 (.rdVSeed v) x.seed

/-! ### Bus writes -/

/-- A write to a shadowed register stores the raw word in the shadow copy, leaves the active copy and everything else
alone, and reads back bit for bit (40_bus_interface.md R132). -/
def Obligations.ShadowWritesStoreRaw : Prop :=
  (∀ (n : Nat) (s : State) (d : Word),
    let g := s.shGlobal
    let stores := fun (h : BitVec 16) (w r : Instr) (g' : GlobalParams) =>
      decode n (.bus h d) = w ∧
        exec w s = .next { s with portValid := false, rdata := none, shGlobal := g' } ∧
        exec r { s with portValid := false, rdata := none, shGlobal := g' } =
          .next { s with portValid := false, rdata := some d, shGlobal := g' }
    stores 0x8040#16 (.wrVibDepth d) .rdVibDepth { g with vibDepth := d } ∧
    stores 0x8044#16 (.wrTremDepth d) .rdTremDepth { g with tremDepth := d } ∧
    stores 0x8048#16 (.wrToneDepth d) .rdToneDepth { g with toneDepth := d } ∧
    stores 0x804C#16 (.wrRevFb d) .rdRevFb { g with revFb := d } ∧
    stores 0x8050#16 (.wrRevMix d) .rdRevMix { g with revMix := d } ∧
    stores 0x8054#16 (.wrDrive d) .rdDrive { g with drive := d } ∧
    stores 0x8058#16 (.wrMakeup d) .rdMakeup { g with makeup := d }) ∧
  (∀ (n : Nat) (s : State) (i : BitVec 2) (x : Lfo) (d : Word), s.lfos.get i = some x →
    decode n (.bus (0x8100#16 + 16#16 * i.setWidth 16) d) = .wrLfoFreq i d ∧
    ∃ b : LfoBank, exec (.wrLfoFreq i d) s = .next { s with portValid := false, rdata := none, lfos := b } ∧
      b.get i = some { x with shFreq := d } ∧ (∀ j, j ≠ i → b.get j = s.lfos.get j) ∧
      exec (.rdLfoFreq i) { s with portValid := false, rdata := none, lfos := b } =
        .next { s with portValid := false, rdata := some d, lfos := b }) ∧
  ∀ (s : State) (v : BitVec 4) (x : Voice) (d : Word), s.voices[v.toNat]? = some x →
    let stores := fun (o : BitVec 16) (w r : Instr) (p : VoiceParams) =>
      decode s.voices.length (.bus (0x8200#16 + 32#16 * v.setWidth 16 + o) d) = w ∧
      ∃ vs : List Voice, exec w s = .next { s with portValid := false, rdata := none, voices := vs } ∧
        vs[v.toNat]? = some { x with sh := p } ∧ (∀ k, k ≠ v.toNat → vs[k]? = s.voices[k]?) ∧
        exec r { s with portValid := false, rdata := none, voices := vs } =
          .next { s with portValid := false, rdata := some d, voices := vs }
    stores 0x0#16 (.wrVFreq v d) (.rdVFreq v) { x.sh with freq := d } ∧
    stores 0x4#16 (.wrVDamp v d) (.rdVDamp v) { x.sh with damp := d } ∧
    stores 0x8#16 (.wrVBright v d) (.rdVBright v) { x.sh with bright := d }

/-- A CTRL write: bits 6:0 from d, bits 7 and 8 hardwired 1, bits 31:9 zero; nothing else (40_bus_interface.md R138). -/
def Obligations.CtrlWriteMasks : Prop :=
  (∀ (n : Nat) (d : Word), decode n (.bus 0x8008#16 d) = .wrCtrl d) ∧
  ∀ (s : State) (d : Word), ∃ c : Word,
    exec (.wrCtrl d) s = .next { s with portValid := false, rdata := none, ctrl := c } ∧
    ∀ k < 32, c.getLsbD k = if k < 7 then d.getLsbD k else decide (k = 7 ∨ k = 8)

/-- A STATUS write clears each of bits 2:0 that is written as 1, and changes nothing else (40_bus_interface.md R146). -/
def Obligations.StatusWriteClearsOnes : Prop :=
  (∀ (n : Nat) (d : Word), decode n (.bus 0x8010#16 d) = .wrStatus d) ∧
  ∀ (s : State) (d : Word), ∃ c : Word,
    exec (.wrStatus d) s = .next { s with portValid := false, rdata := none, status := c } ∧
    ∀ k < 32, c.getLsbD k = (s.status.getLsbD k && !(decide (k < 3) && d.getLsbD k))

/-- A TRIG write makes pending each voice whose bit is 1, clears none, and changes nothing else (40_bus_interface.md R148). -/
def Obligations.TrigWriteOrsIntoPending : Prop :=
  (∀ (n : Nat) (d : Word), decode n (.bus 0x8018#16 d) = .wrTrig d) ∧
  ∀ (s : State) (d : Word), ∃ vs : List Voice,
    exec (.wrTrig d) s = .next { s with portValid := false, rdata := none, voices := vs } ∧
    vs.length = s.voices.length ∧
    ∀ (k : Nat) (x : Voice), s.voices[k]? = some x → vs[k]? = some { x with trigPending := x.trigPending || d.getLsbD k }

/-- A DL_SEL write keeps bits 19:0 (40_bus_interface.md R153). -/
def Obligations.DlSelWriteKeepsFields : Prop :=
  (∀ (n : Nat) (d : Word), decode n (.bus 0x8024#16 d) = .wrDlSel d) ∧
  ∀ (s : State) (d : Word), ∃ c : Word,
    exec (.wrDlSel d) s = .next { s with portValid := false, rdata := none, dlSel := c } ∧
    c.toNat = d.toNat % 2 ^ 20

/-- A SEED write stores its word at once, 0 as 1, in the one voice, and reads back so (40_bus_interface.md R188). -/
def Obligations.SeedWriteStoresNonzero : Prop :=
  ∀ (s : State) (v : BitVec 4) (x : Voice) (d : Word), s.voices[v.toNat]? = some x →
    decode s.voices.length (.bus (0x821C#16 + 32#16 * v.setWidth 16) d) = .wrVSeed v d ∧
    ∃ vs : List Voice, exec (.wrVSeed v d) s = .next { s with portValid := false, rdata := none, voices := vs } ∧
      vs[v.toNat]? = some { x with seed := if d = 0#32 then 1#32 else d } ∧
      (∀ k, k ≠ v.toNat → vs[k]? = s.voices[k]?) ∧
      exec (.rdVSeed v) { s with portValid := false, rdata := none, voices := vs } =
        .next { s with portValid := false, rdata := some (if d = 0#32 then 1#32 else d), voices := vs }

/-- A write to a read-only register sets BUS_ERR and nothing else, and every register of R133's list is one
(40_bus_interface.md R133). -/
def Obligations.ReadOnlyWriteSetsBusErr : Prop :=
  (∀ (s : State) (a : BitVec 12) (d : Word),
    exec (.roWrite a d) s = .next { s with portValid := false, rdata := none, status := s.status ||| 1#32 }) ∧
  ∀ (n : Nat) (d : Word),
    (∀ a ∈ [0x000#12, 0x004#12, 0x014#12, 0x01C#12, 0x020#12, 0x028#12, 0x060#12, 0x064#12, 0x068#12],
      decode n (.bus (0x8000#16 + a.setWidth 16) d) = .roWrite a d) ∧
    (∀ i ∈ [0#12, 1#12, 2#12], ∀ o ∈ [0x4#12, 0x8#12, 0xC#12],
      decode n (.bus (0x8000#16 + (0x100#12 + 16#12 * i + o).setWidth 16) d) = .roWrite (0x100#12 + 16#12 * i + o) d) ∧
    ∀ v : BitVec 4, v.toNat < n → ∀ o ∈ [0x0C#12, 0x10#12, 0x14#12, 0x18#12],
      decode n (.bus (0x8000#16 + (0x200#12 + 32#12 * v.setWidth 12 + o).setWidth 16) d) =
        .roWrite (0x200#12 + 32#12 * v.setWidth 12 + o) d

/-- An invalid transaction sets BUS_ERR and nothing else; an invalid read answers 0 (40_bus_interface.md R134). -/
def Obligations.InvalidAccessSetsBusErr : Prop :=
  ∀ (s : State) (r : BitVec 3) (a : BitVec 12) (d : Word),
    exec (.invalid true r a d) s = .next { s with portValid := false, rdata := none, status := s.status ||| 1#32 } ∧
    exec (.invalid false r a d) s =
      .next { s with portValid := false, rdata := some 0#32, status := s.status ||| 1#32 }

/-! ### Commands -/

/-- CMD NOP changes nothing; a reserved CMD word sets CMD_ERR and nothing else (40_bus_interface.md R140, R144). -/
def Obligations.NopAndReservedCommands : Prop :=
  (∀ (n : Nat), decode n (.bus 0x800C#16 0#32) = .cmdNop) ∧
  (∀ (n : Nat) (d : Word), (d.extractLsb' 4 28 ≠ 0#28 ∨ 4#4 ≤ d.extractLsb' 0 4) →
    decode n (.bus 0x800C#16 d) = .cmdReserved d) ∧
  ∀ (s : State) (d : Word),
    exec .cmdNop s = .next { s with portValid := false, rdata := none } ∧
    exec (.cmdReserved d) s = .next { s with portValid := false, rdata := none, status := s.status ||| 2#32 }

/-- CMD COMMIT loads every active copy from its shadow in one step, and changes nothing else (40_bus_interface.md R141). -/
def Obligations.CommitLoadsEveryActiveCopy : Prop :=
  (∀ n : Nat, decode n (.bus 0x800C#16 1#32) = .cmdCommit) ∧
  ∀ s : State, ∃ (vs : List Voice) (b : LfoBank),
    exec .cmdCommit s =
      .next { s with portValid := false, rdata := none, actGlobal := s.shGlobal, voices := vs, lfos := b } ∧
    vs.length = s.voices.length ∧ (∀ (k : Nat) (x : Voice), s.voices[k]? = some x → vs[k]? = some { x with act := x.sh }) ∧
    ∀ (i : BitVec 2) (x : Lfo), s.lfos.get i = some x → b.get i = some { x with actFreq := x.shFreq }

/-- CMD CLEAR zeroes the signal state and keeps the configuration (40_bus_interface.md R143); that portValid falls is the
model's reading of R207 (log entry 12). -/
def Obligations.ClearZeroesSignalState : Prop :=
  (∀ n : Nat, decode n (.bus 0x800C#16 3#32) = .cmdClear) ∧
  ∀ s : State, ∃ t : State, exec .cmdClear s = .next t ∧
    (∀ (k : Nat) (x : Voice), s.voices[k]? = some x → ∃ y : Voice, t.voices[k]? = some y ∧
      (∀ a, Memory.read y.buf a = 0#32) ∧ y.pos = 0 ∧ y.yp = 0#32 ∧ y.vout = 0#32 ∧ y.trigPending = false ∧ y.len = x.len ∧ y.seed = x.seed ∧ y.sh = x.sh ∧ y.act = x.act) ∧
    t.voices.length = s.voices.length ∧
    (∀ (i : BitVec 2) (x : Lfo), s.lfos.get i = some x → t.lfos.get i = some { x with phase := 0#32 }) ∧
    t.dcX1 = 0#32 ∧ t.dcY1 = 0#32 ∧
    t.combs.length = s.combs.length ∧
    (∀ x : Comb, x ∈ t.combs → (∀ a, Memory.read x.buf a = 0#32) ∧ x.lp = 0#32 ∧ x.idx = 0) ∧
    t.allpasses.length = s.allpasses.length ∧
    (∀ x : Allpass, x ∈ t.allpasses → (∀ a, Memory.read x.buf a = 0#32) ∧ x.idx = 0) ∧
    t.outL = 0#32 ∧ t.outR = 0#32 ∧ t.tapSum = 0#32 ∧ t.tapDc = 0#32 ∧ t.tapRev = 0#32 ∧
    t.cfg = s.cfg ∧ t.ctrl = s.ctrl ∧ t.status = s.status ∧ t.sampleCount = s.sampleCount ∧ t.dlSel = s.dlSel ∧
    t.shGlobal = s.shGlobal ∧ t.actGlobal = s.actGlobal ∧ t.portL = s.portL ∧ t.portR = s.portR ∧
    t.portValid = false ∧ t.rdata = none

/-! ### RESET -/

/-- RESET sets every field to its reset value, whatever the state was (70_reset_and_hazards.md R320, R321). -/
def Obligations.ResetSetsEveryField : Prop :=
  (∀ n : Nat, decode n .reset = .reset) ∧
  ∀ s : State, ∃ t : State, exec .reset s = .next t ∧
    t.ctrl = 0x00000180#32 ∧ t.status = 0#32 ∧ t.sampleCount = 0#32 ∧ t.outL = 0#32 ∧ t.outR = 0#32 ∧
    t.tapSum = 0#32 ∧ t.tapDc = 0#32 ∧ t.tapRev = 0#32 ∧ t.dlSel = 0#32 ∧
    t.shGlobal = ⟨0#32, 0#32, 0#32, 0x3F000000#32, 0#32, 0x3F800000#32, 0x3F800000#32⟩ ∧ t.actGlobal = t.shGlobal ∧
    t.voices.length = s.cfg.nVoices ∧
    (∀ (k : Nat) (p : VoiceConfig), s.cfg.voices[k]? = some p → ∃ y : Voice, t.voices[k]? = some y ∧
      y.sh = ⟨p.resetFreq, 0x3F7AE148#32, 0x3F000000#32⟩ ∧ y.act = y.sh ∧ y.trigPending = false ∧
      (∀ a, Memory.read y.buf a = 0#32) ∧ 
      y.len = delayLength s.cfg (clampf p.resetFreq s.cfg.fMin (nyq s.cfg)) ∧ y.pos = 0 ∧ y.yp = 0#32 ∧ y.vout = 0#32 ∧ y.seed = p.seedReset) ∧
    (∀ (i : BitVec 2) (x : Lfo), t.lfos.get i = some x → x = ⟨0#32, 0#32, 0#32⟩) ∧ t.dcX1 = 0#32 ∧ t.dcY1 = 0#32 ∧
    t.combs.length = s.cfg.combLen.length ∧
    (∀ x : Comb, x ∈ t.combs → (∀ a, Memory.read x.buf a = 0#32) ∧ x.lp = 0#32 ∧ x.idx = 0) ∧
    t.allpasses.length = s.cfg.apLen.length ∧
    (∀ x : Allpass, x ∈ t.allpasses → (∀ a, Memory.read x.buf a = 0#32) ∧ x.idx = 0) ∧
    t.portL = 0#32 ∧ t.portR = 0#32 ∧ t.portValid = false

/-- The instance block after reset reads as 70_reset_and_hazards.md R321 says of the instance (log entry 4: that the
machine is built with the instance is the model's choice), and its sine table has the entries and the symmetries of
42_lfo_bank.md R224. -/
def Obligations.InstanceResetReadbacks : Prop :=
  State.reset.ctrl = 0x180#32 ∧ State.reset.voices.map Voice.len = List.replicate 8 218 ∧
    State.reset.voices.map Voice.seed =
      [0x2545F491#32, 0xC37D6E4A#32, 0x61B4E803#32, 0xFFEC61BC#32, 0x9E23DB75#32, 0x3C5B552E#32, 0xDA92CEE7#32,
        0x78CA48A0#32] ∧
    State.reset.voices.map (fun v => v.sh.freq) = List.replicate 8 0x435C0000#32 ∧
    sinOut State.reset.cfg 0#32 = 0#32 ∧ tri 0#32 = 0xBF800000#32 ∧ saw 0#32 = 0xBF800000#32 ∧
    cosOut State.reset.cfg 0#32 = 0x3F800000#32 ∧
    (State.reset.cfg.sinLut.length = 1024 ∧
      [1, 64, 128, 256, 512, 768, 1023].map (State.reset.cfg.sinLut[·]?) =
        [some 0x3BC90F88#32, some 0x3EC3EF15#32, some 0x3F3504F3#32, some 0x3F800000#32, some 0#32, some 0xBF800000#32,
          some 0xBBC90F88#32] ∧
      (∀ k < 1024, k ≠ 0 → k ≠ 512 →
        State.reset.cfg.sinLut[1024 - k]? = (State.reset.cfg.sinLut[k]?).map (· ^^^ 0x80000000#32)) ∧
      ∀ k < 513, State.reset.cfg.sinLut[512 - k]? = State.reset.cfg.sinLut[k]?)

/-! ### Ticks -/

/-- Where each tick source makes no tick, and the silent tick where EN = 0 (40_bus_interface.md R142, 41_tick_sequence.md
R201, R203). That no step of these drives a bus response is the model's choice (log entry 3). -/
def Obligations.TickSourcesAndSilentTick : Prop :=
  (∀ n : Nat, decode n (.bus 0x800C#16 2#32) = .cmdTick ∧ decode n .strobe = .strobe) ∧
  ∀ s : State,
    let silent : State :=
      { s with outL := 0#32, outR := 0#32, portL := 0#32, portR := 0#32, portValid := true, rdata := none }
    (s.ctrl.getLsbD 1 = false →
      exec .cmdTick s = .next { s with portValid := false, rdata := none, status := s.status ||| 2#32 }) ∧
    (s.ctrl.getLsbD 1 = true → exec .strobe s = .next { s with portValid := false, rdata := none }) ∧
    (s.ctrl.getLsbD 1 = true → s.ctrl.getLsbD 0 = false → exec .cmdTick s = .next silent) ∧
    (s.ctrl.getLsbD 1 = false → s.ctrl.getLsbD 0 = false → exec .strobe s = .next silent)

/-- A dropped strobe sets OVERRUN where the strobe makes the ticks, and is ignored otherwise (41_tick_sequence.md R202).
That it drives no bus response is the model's choice (log entry 3). -/
def Obligations.StrobeDropSetsOverrun : Prop :=
  (∀ n : Nat, decode n .strobeDrop = .strobeDrop) ∧
  ∀ s : State,
    (s.ctrl.getLsbD 1 = false →
      exec .strobeDrop s = .next { s with portValid := false, rdata := none, status := s.status ||| 4#32 }) ∧
    (s.ctrl.getLsbD 1 = true → exec .strobeDrop s = .next { s with portValid := false, rdata := none })

/-- An enabled tick completes, emits one sample on both channels, advances the phases and the counter, and changes no
control, status or parameter (41_tick_sequence.md R200, R206, R207). That it drives no bus response is the model's choice
(log entry 3). -/
def Obligations.EnabledTickCompletes : Prop :=
  ∀ (s : State) (i : Instr),
    ((i = .cmdTick ∧ s.ctrl.getLsbD 1 = true) ∨ (i = .strobe ∧ s.ctrl.getLsbD 1 = false)) →
    s.ctrl.getLsbD 0 = true → s.indexed = true →
    ∃ t, exec i s = .next t ∧ t.sampleCount = s.sampleCount + 1#32 ∧
      (∀ (j : BitVec 2) (x : Lfo), s.lfos.get j = some x →
        t.lfos.get j = some { x with phase := x.phase + lfoIncrement s.cfg x.actFreq }) ∧
      t.outR = t.outL ∧ t.portL = t.outL ∧ t.portR = t.outL ∧ t.portValid = true ∧ t.rdata = none ∧
      t.voices.length = s.voices.length ∧ t.cfg = s.cfg ∧ t.ctrl = s.ctrl ∧ t.status = s.status ∧ t.dlSel = s.dlSel ∧
      t.shGlobal = s.shGlobal ∧ t.actGlobal = s.actGlobal ∧ t.events = s.events ∧
      ∀ (k : Nat) (x : Voice), s.voices[k]? = some x →
        ∃ y : Voice, t.voices[k]? = some y ∧ y.sh = x.sh ∧ y.act = x.act

/-- In a state whose indices leave their memories, an enabled tick stops: the model's choice (log entry 9), and no run
reaches such a state. -/
def Obligations.EnabledTickNeedsItsCells : Prop :=
  ∀ (s : State) (i : Instr), makesTick i s = true → ctrlEn s.ctrl = true → s.indexed = false →
    exec i s = .fault .cellAbsent

/-- What an enabled tick computes from the voices' samples on: sum, tremolo, DC blocker, saturation and taps
(44_post_chain.md R270 to R272, R279 to R282). -/
def Obligations.EnabledTickPostChain : Prop :=
  ∀ (s t : State) (i : Instr), makesTick i s = true → ctrlEn s.ctrl = true → exec i s = .next t →
    let m0 := mul32 ((t.voices.map Voice.vout).foldl add32 0#32) s.cfg.headroom
    let l1 := waveOut s.cfg s.cfg.wave1 s.lfos.l1.phase
    let g := sub32 one32 (mul32 (clampf s.actGlobal.tremDepth 0#32 one32) (mul32 (sub32 one32 l1) half32))
    let m := if s.ctrl.getLsbD 4 then mul32 m0 g else m0
    t.tapSum = m ∧ t.dcX1 = m ∧ t.tapDc = add32 (sub32 m s.dcX1) (mul32 s.cfg.dcK s.dcY1) ∧ t.dcY1 = t.tapDc ∧
    t.outL = mul32 (tanh32 s.cfg (mul32 t.tapRev (clampf s.actGlobal.drive 0#32 s.cfg.driveMax)))
      (clampf s.actGlobal.makeup 0#32 s.cfg.makeupMax)

/-- With REV_EN = 0 the reverb is bypassed and its state frozen (44_post_chain.md R273). -/
def Obligations.ReverbFrozenWhenDisabled : Prop :=
  ∀ (s t : State) (i : Instr), makesTick i s = true → ctrlEn s.ctrl = true → s.ctrl.getLsbD 6 = false →
    exec i s = .next t → t.tapRev = t.tapDc ∧ t.combs = s.combs ∧ t.allpasses = s.allpasses

/-- A comb in an enabled tick with REV_EN = 1: its lowpass, the one cell it stores and its index; every other cell is
unchanged (44_post_chain.md R275). -/
def Obligations.CombTick : Prop :=
  ∀ (s t : State) (i : Instr) (k n : Nat) (x : Comb), s.Inv → makesTick i s = true → ctrlEn s.ctrl = true →
    s.ctrl.getLsbD 6 = true → exec i s = .next t → s.combs[k]? = some x → s.cfg.combLen[k]? = some n →
    ∃ y : Comb, t.combs[k]? = some y ∧
      y.lp = add32 (mul32 (Memory.read x.buf x.idx) (sub32 one32 s.cfg.revDamp)) (mul32 x.lp s.cfg.revDamp) ∧
      Memory.read y.buf x.idx = add32 t.tapDc (mul32 y.lp (clampf s.actGlobal.revFb 0#32 s.cfg.revFbMax)) ∧
      (∀ a, a ≠ x.idx → Memory.read y.buf a = Memory.read x.buf a) ∧ y.idx = (x.idx + 1) % n

/-- An allpass in an enabled tick with REV_EN = 1, on the output of the allpasses before it: the one cell it stores and
its index; every other cell is unchanged; and the wet signal enters the dry/wet mix (44_post_chain.md R276 to R278). -/
def Obligations.AllpassTick : Prop :=
  ∀ (s t : State) (i : Instr), s.Inv → makesTick i s = true → ctrlEn s.ctrl = true → s.ctrl.getLsbD 6 = true →
    exec i s = .next t →
    let w0 := mul32 ((s.combs.map fun x => Memory.read x.buf x.idx).foldl add32 0#32) s.cfg.combScale
    let stored := fun (w : Word) (x : Allpass) => add32 w (mul32 s.cfg.apG (Memory.read x.buf x.idx))
    let through := fun (w : Word) (x : Allpass) => sub32 (Memory.read x.buf x.idx) (mul32 s.cfg.apG (stored w x))
    let mx := clampf s.actGlobal.revMix 0#32 one32
    t.tapRev = add32 (mul32 (sub32 one32 mx) t.tapDc) (mul32 mx (s.allpasses.foldl through w0)) ∧
    ∀ (k n : Nat) (x : Allpass), s.allpasses[k]? = some x → s.cfg.apLen[k]? = some n →
      ∃ y : Allpass, t.allpasses[k]? = some y ∧
        Memory.read y.buf x.idx = stored ((s.allpasses.take k).foldl through w0) x ∧
        (∀ a, a ≠ x.idx → Memory.read y.buf a = Memory.read x.buf a) ∧ y.idx = (x.idx + 1) % n

/-- The delay length of a voice in an enabled tick, with vibrato where VIB_EN = 1; the voice's parameters are kept and no
trigger stays pending (43_voice_engine.md R241 to R244, R248). -/
def Obligations.VoiceTickLength : Prop :=
  ∀ (s t : State) (i : Instr) (k : Nat) (x : Voice), makesTick i s = true → ctrlEn s.ctrl = true →
    exec i s = .next t → s.voices[k]? = some x →
    let l0 := waveOut s.cfg s.cfg.wave0 s.lfos.l0.phase
    let f0 := clampf x.act.freq s.cfg.fMin (nyq s.cfg)
    let fv := mul32 f0 (add32 one32 (mul32 (clampf s.actGlobal.vibDepth 0#32 one32) l0))
    let f := if s.ctrl.getLsbD 3 then clampf fv s.cfg.fMin (nyq s.cfg) else f0
    ∃ y : Voice, t.voices[k]? = some y ∧ y.len = delayLength s.cfg f ∧ y.sh = x.sh ∧ y.act = x.act ∧ y.trigPending = false

/-- The loop of a voice without a pending trigger: the sample it makes, the one cell it stores, its filter state, its
output and its position; every other cell and the seed are unchanged (43_voice_engine.md R244 to R246, R250 to R254). -/
def Obligations.VoiceTickLoop : Prop :=
  ∀ (s t : State) (i : Instr) (k : Nat) (x : Voice), makesTick i s = true → ctrlEn s.ctrl = true →
    exec i s = .next t → s.voices[k]? = some x → x.trigPending = false → Memory.wf x.buf →
    ∃ y : Voice, t.voices[k]? = some y ∧
      let p := if y.len = x.len then x.pos else if y.len ≤ x.pos then 0 else x.pos
      let b0 := clampf x.act.bright s.cfg.brightMin one32
      let l2 := waveOut s.cfg s.cfg.wave2 s.lfos.l2.phase
      let bt := add32 b0 (mul32 (clampf s.actGlobal.toneDepth 0#32 one32) l2)
      let b := if s.ctrl.getLsbD 5 then clampf bt s.cfg.brightMin one32 else b0
      let d := clampf x.act.damp s.cfg.dampMin s.cfg.dampMax
      let u := mul32 d (add32 (mul32 b (Memory.read x.buf p)) (mul32 (sub32 one32 b) x.yp))
      let z := if s.ctrl.getLsbD 2 then add32 u (mul32 s.cfg.nlCoef (sub32 (tanh32 s.cfg u) u)) else u
      y.vout = z ∧ y.yp = z ∧ Memory.read y.buf p = z ∧ (∀ a, a ≠ p → Memory.read y.buf a = Memory.read x.buf a) ∧
        y.pos = (p + 1) % y.len ∧ y.seed = x.seed

/-- A voice with a pending trigger: the draws that fill its line, the sample made from the first of them with a cleared
filter, and the seed after the last; cells at or beyond the length are unchanged (43_voice_engine.md R247 to R249). -/
def Obligations.VoiceTickExcites : Prop :=
  ∀ (s t : State) (i : Instr) (k : Nat) (x : Voice), s.Inv → makesTick i s = true → ctrlEn s.ctrl = true →
    exec i s = .next t → s.voices[k]? = some x → x.trigPending = true →
    ∃ y : Voice, t.voices[k]? = some y ∧
      let b0 := clampf x.act.bright s.cfg.brightMin one32
      let l2 := waveOut s.cfg s.cfg.wave2 s.lfos.l2.phase
      let bt := add32 b0 (mul32 (clampf s.actGlobal.toneDepth 0#32 one32) l2)
      let b := if s.ctrl.getLsbD 5 then clampf bt s.cfg.brightMin one32 else b0
      let d := clampf x.act.damp s.cfg.dampMin s.cfg.dampMax
      let u := mul32 d (add32 (mul32 b (noise (xs32 x.seed))) (mul32 (sub32 one32 b) 0#32))
      let z := if s.ctrl.getLsbD 2 then add32 u (mul32 s.cfg.nlCoef (sub32 (tanh32 s.cfg u) u)) else u
      y.vout = z ∧ y.yp = z ∧ Memory.read y.buf 0 = z ∧
        (∀ a, 0 < a → a < y.len → Memory.read y.buf a = noise (xs32^[a + 1] x.seed)) ∧
        (∀ a, y.len ≤ a → Memory.read y.buf a = Memory.read x.buf a) ∧
        y.seed = xs32^[y.len] x.seed ∧ y.pos = 1 ∧ y.trigPending = false

/-- What a voice becomes in a tick depends on its own state, its parameters, CTRL, the shared depths and the LFOs, and on
nothing of another voice (41_tick_sequence.md R205). -/
def Obligations.VoicesDoNotInterfere : Prop :=
  ∀ (s s' t t' : State) (i : Instr) (k : Nat), makesTick i s = true → ctrlEn s.ctrl = true →
    s'.cfg = s.cfg → s'.ctrl = s.ctrl → s'.actGlobal.vibDepth = s.actGlobal.vibDepth →
    s'.actGlobal.toneDepth = s.actGlobal.toneDepth → s'.lfos = s.lfos → s'.voices[k]? = s.voices[k]? →
    exec i s = .next t → exec i s' = .next t' → t'.voices[k]? = t.voices[k]?

/-! ### Numbers -/

/-- The delay length is FS / f rounded to the nearest integer, ties up, within L_MIN and DL_CAP (43_voice_engine.md
R243): the quotient is exact. DL_CAP is ceil(FS / F_MIN), and NYQ is FS / 2 (00_scope.md R8, R9). -/
def Obligations.DelayLengthRoundsExactQuotient : Prop :=
  (∀ c : Config, configOk c = true →
    toFix (nyq c) = (2 ^ 148 * c.fs : Nat) ∧
    (dlCap c - 1) * fixMag c.fMin < 2 ^ 149 * c.fs ∧ 2 ^ 149 * c.fs ≤ dlCap c * fixMag c.fMin) ∧
  ∀ (c : Config) (f : Word), configOk c = true → le32 c.fMin f = true → le32 f (nyq c) = true →
    let l := delayLength c f
    2 ≤ l ∧ l ≤ dlCap c ∧ (2 * l - 1) * fixMag f ≤ 2 * (2 ^ 149 * c.fs) ∧
      (2 * (2 ^ 149 * c.fs) < (2 * l + 1) * fixMag f ∨ l = dlCap c)

/-- The phase increment of an LFO: 0 for a frequency that is no positive number, 2^31 from LFO_FMAX on, and f * 2^32 / FS
rounded to the nearest integer between (42_lfo_bank.md R221). -/
def Obligations.LfoIncrementRoundsExactQuotient : Prop :=
  ∀ (c : Config) (f : Word), configOk c = true →
    let n := (lfoIncrement c f).toNat
    n ≤ 2 ^ 31 ∧ (isNaN f = true ∨ toFix f ≤ 0 → n = 0) ∧
    (isNaN f = false → toFix (nyq c) ≤ toFix f → n = 2 ^ 31) ∧
    (isNaN f = false → 0 < toFix f → toFix f < toFix (nyq c) →
      2 * n * (2 ^ 149 * c.fs) ≤ 2 ^ 33 * fixMag f + 2 ^ 149 * c.fs ∧
      2 ^ 33 * fixMag f < (2 * n + 1) * (2 ^ 149 * c.fs))

/-- The waveforms: sine and cosine are the table's entries at the top bits of the phase and a quarter of the table on,
the triangle and the sawtooth are exact, `wave_i` is the one of the three that the parameter names, and every value is a
finite number in [-1, 1] (42_lfo_bank.md R223 to R229). -/
def Obligations.WaveformsStayInRange : Prop :=
  ∀ (c : Config) (p : Word), configOk c = true →
    absLe 1 (sinOut c p) ∧ absLe 1 (cosOut c p) ∧ absLe 1 (tri p) ∧ absLe 1 (saw p) ∧
    (let idx := (p >>> (32 - c.log2Lut)).toNat
     c.sinLut[idx]? = some (sinOut c p) ∧
     c.sinLut[(idx + 2 ^ c.log2Lut / 4) % 2 ^ c.log2Lut]? = some (cosOut c p)) ∧
    (let h : Int := (p.toNat / 256 : Nat)
     toFix (tri p) = 2 ^ 127 * (if h < 2 ^ 23 then h - 2 ^ 22 else 3 * 2 ^ 22 - h) ∧
     toFix (saw p) = 2 ^ 126 * (h - 2 ^ 23)) ∧
    tri p ≠ 0x80000000#32 ∧ saw p ≠ 0x80000000#32 ∧
    waveOut c .sine p = sinOut c p ∧ waveOut c .triangle p = tri p ∧ waveOut c .sawtooth p = saw p

/-- A noise sample is bits 31:8 of the seed as a signed integer over 2^23, exactly (43_voice_engine.md R247). -/
def Obligations.NoiseIsExact : Prop :=
  ∀ s : Word, isFinite (noise s) = true ∧ toFix (noise s) = 2 ^ 126 * (s.extractLsb' 8 24).toInt

/-- xorshift32 with shifts 13, 17 and 5, which maps nonzero words to nonzero words and 0 to 0 (00_scope.md R17). -/
def Obligations.XorshiftKeepsNonzero : Prop :=
  ∀ s : Word,
    (let a := s ^^^ (s <<< 13)
     let b := a ^^^ (a >>> 17)
     xs32 s = b ^^^ (b <<< 5)) ∧ (s ≠ 0#32 → xs32 s ≠ 0#32) ∧ xs32 0#32 = 0#32

/-- `clampf`: a NaN or a value at or below the lower bound gives the lower bound, a value at or above the upper bound the
upper, any other itself; the result lies between the bounds. `clampi` does the same to integers (00_scope.md R14). -/
def Obligations.ClampStaysBetween : Prop :=
  (∀ n lo hi : Nat, lo ≤ hi →
    (n ≤ lo → clampi n lo hi = lo) ∧ (hi ≤ n → lo < n → clampi n lo hi = hi) ∧
    (lo < n → n < hi → clampi n lo hi = n)) ∧
  ∀ (x lo hi : Word), le32 lo hi = true →
    (isNaN x = true → clampf x lo hi = lo) ∧ (le32 x lo = true → clampf x lo hi = lo) ∧
    (le32 hi x = true → le32 x lo = false → clampf x lo hi = hi) ∧
    (isNaN x = false → le32 x lo = false → le32 hi x = false → clampf x lo hi = x) ∧
    le32 lo (clampf x lo hi) = true ∧ le32 (clampf x lo hi) hi = true

/-- binary32 arithmetic as 00_scope.md R13 has it. The value of an encoding: sign, exponent and fraction fields. Rounding
is to the nearest value, and to the even one of two nearest: no finite magnitude m is nearer to n * 2^-(149 + s) than the
rounded one, and one as near is the rounded one or the rounded one is even; from 2^128 - 2^103 on it overflows to infinity.
A sum, a difference and a product of finite values are the rounded exact one with its sign, or the zero with the sign that
IEEE 754 gives; infinities and NaNs go as there too. -/
def Obligations.RoundingIsNearestEven : Prop :=
  (∀ w : Word,
    let e := (w.extractLsb' 23 8).toNat
    let f := (w.extractLsb' 0 23).toNat
    (isFinite w = decide (e < 255)) ∧ (isInf w = decide (e = 255 ∧ f = 0)) ∧ (isNaN w = decide (e = 255 ∧ f ≠ 0)) ∧
    fixMag w = (if e = 0 then f else (2 ^ 23 + f) * 2 ^ (e - 1)) ∧
    toFix w = (if w.msb then -(fixMag w : Int) else fixMag w)) ∧
  (∀ (n s m : Nat), roundMag n s < infBits → m < infBits →
    let v := fun (k : Nat) => (fixMag (BitVec.ofNat 32 k) * 2 ^ s : Int)
    |v (roundMag n s) - n| ≤ |v m - n| ∧
      (|v (roundMag n s) - n| = |v m - n| → m = roundMag n s ∨ roundMag n s % 2 = 0)) ∧
  (∀ n s : Nat, roundMag n s ≤ infBits ∧ (roundMag n s = infBits ↔ (2 ^ 25 - 1) * 2 ^ (252 + s) ≤ n)) ∧
  (∀ a b : Word, isFinite a = true → isFinite b = true →
    let rounds := fun (w : Word) (z : Int) (negZero : Bool) =>
      (z = 0 → w = if negZero then 0x80000000#32 else 0#32) ∧
      (z ≠ 0 → w.msb = decide (z < 0) ∧ (w.extractLsb' 0 31).toNat = roundMag z.natAbs 0)
    rounds (add32 a b) (toFix a + toFix b) (a.msb && b.msb) ∧
    rounds (sub32 a b) (toFix a - toFix b) (a.msb && !b.msb) ∧
    (mul32 a b).msb = (a.msb != b.msb) ∧
    ((mul32 a b).extractLsb' 0 31).toNat = roundMag (fixMag a * fixMag b) 149) ∧
  ∀ a b : Word,
    sub32 a b = add32 a (b ^^^ 0x80000000#32) ∧
    (isNaN a = true ∨ isNaN b = true → isNaN (add32 a b) = true ∧ isNaN (mul32 a b) = true) ∧
    (isInf a = true → isFinite b = true ∨ b = a → add32 a b = a) ∧
    (isFinite a = true → isInf b = true → add32 a b = b) ∧
    (isInf a = true → b = a ^^^ 0x80000000#32 → isNaN (add32 a b) = true) ∧
    (isNaN a = false → isNaN b = false → isInf a = true ∨ isInf b = true →
      (toFix a = 0 ∨ toFix b = 0 → isNaN (mul32 a b) = true) ∧
      (toFix a ≠ 0 → toFix b ≠ 0 →
        mul32 a b = if a.msb != b.msb then 0xFF800000#32 else 0x7F800000#32))

/-- For b in [0.5, 1], 1 - b is exact (43_voice_engine.md R251). -/
def Obligations.OneMinusBrightnessIsExact : Prop :=
  ∀ b : Word, le32 half32 b = true → le32 b one32 = true → toFix (sub32 one32 b) = 2 ^ 149 - toFix b

/-- Tanh32 has T4 of 00_scope.md R18 on every operand and T2 and T3 on the finite ones, and T5 where it is the free function
(log entry 6; that T4 goes by encodings at a NaN is the model's reading, log entry 7). -/
def Obligations.TanhHasItsProperties : Prop :=
  (∀ (c : Config) (x : Word), tanh32 c (x ^^^ 0x80000000#32) = tanh32 c x ^^^ 0x80000000#32) ∧
  ∀ (c : Config) (x : Word), isFinite x = true →
    absLe 1 (tanh32 c x) ∧ fixMag (tanh32 c x) ≤ fixMag x ∧ signBit (tanh32 c x) = signBit x ∧
    (c.tanh = .free → ∀ y, isFinite y = true → le32 x y = true → le32 (tanh32 c x) (tanh32 c y) = true)

/-- That a voice step never gives a larger magnitude than those it reads, as 43_voice_engine.md R255 says in passing. It
fails for subnormal values under the rounding of R13 and R251, which the model follows (log entry 24). -/
def Obligations.LoopNeverRaisesMagnitude : Prop :=
  ∀ (b d x y1 : Word), le32 half32 b = true → le32 b one32 = true → le32 half32 d = true →
    le32 d 0x3F7D70A4#32 = true → isFinite x = true → isFinite y1 = true →
    fixMag (loopFilter b d x y1) ≤ max (fixMag x) (fixMag y1)

/-! ### Rules about every operation -/

/-- No valid read has a side effect: it answers a word, and nothing but the port's valid bit and the response changes
(20_memory.md R87, 40_bus_interface.md R130). -/
def Obligations.ValidReadsHaveNoSideEffect : Prop :=
  ∀ (i : Instr) (s : State), isRead i = true → Instr.wf s.voices.length i = true →
    ∃ w, exec i s = .next { s with portValid := false, rdata := some w }

/-- Only CMD COMMIT and RESET change an active copy (10_state.md R36). -/
def Obligations.OnlyCommitAndResetChangeActiveCopies : Prop :=
  ∀ (i : Instr) (s t : State), exec i s = .next t → i ≠ .cmdCommit → i ≠ .reset →
    t.actGlobal = s.actGlobal ∧ t.voices.map Voice.act = s.voices.map Voice.act ∧
    ∀ (j : BitVec 2) (x y : Lfo), s.lfos.get j = some x → t.lfos.get j = some y → y.actFreq = x.actFreq

/-- No operation changes the parameters or the host's events still to come (log entries 1 and 4). -/
def Obligations.OperationsKeepParametersAndEvents : Prop :=
  ∀ (i : Instr) (s t : State), exec i s = .next t → t.cfg = s.cfg ∧ t.events = s.events

/-- portValid is 1 exactly after a tick, and without a tick only RESET changes the port's samples (41_tick_sequence.md
R207). -/
def Obligations.PortValidExactlyAfterTick : Prop :=
  ∀ (i : Instr) (s t : State), exec i s = .next t →
    t.portValid = makesTick i s ∧
    (makesTick i s = false → i ≠ .reset → t.portL = s.portL ∧ t.portR = s.portR)

/-- A STATUS bit that is 0 is set by exactly the events of 60_exceptions.md R301: each of them sets its bit, and nothing
else sets one. -/
def Obligations.StatusBitsSetOnlyByNamedEvents : Prop :=
  ∀ (i : Instr) (s t : State) (k : Nat), Instr.wf s.voices.length i = true → exec i s = .next t →
    s.status.getLsbD k = false →
    (t.status.getLsbD k = true ↔
      (k = 0 ∧ ((∃ a d, i = .roWrite a d) ∨ ∃ w r a d, i = .invalid w r a d)) ∨
      (k = 1 ∧ ((∃ d, i = .cmdReserved d) ∨ (i = .cmdTick ∧ s.ctrl.getLsbD 1 = false))) ∨
      (k = 2 ∧ i = .strobeDrop ∧ s.ctrl.getLsbD 1 = false))

/-- The phases change only in enabled ticks, by CMD CLEAR and by RESET: no host write sets one (42_lfo_bank.md R222). -/
def Obligations.PhasesChangeOnlyInTicksClearAndReset : Prop :=
  ∀ (i : Instr) (s t : State) (j : BitVec 2) (x y : Lfo), exec i s = .next t →
    (makesTick i s && ctrlEn s.ctrl) = false → i ≠ .cmdClear → i ≠ .reset →
    s.lfos.get j = some x → t.lfos.get j = some y → y.phase = x.phase

/-- No bus write and no dropped strobe reaches a cell, a filter or the counter: they change only in ticks, by CMD CLEAR
and by RESET (10_state.md R43, R54, 20_memory.md R80). -/
def Obligations.SignalStateChangesOnlyInTicksClearAndReset : Prop :=
  ∀ (i : Instr) (s t : State), exec i s = .next t → makesTick i s = false → i ≠ .cmdClear → i ≠ .reset →
    t.voices.map Voice.buf = s.voices.map Voice.buf ∧ t.voices.map Voice.len = s.voices.map Voice.len ∧
    t.voices.map Voice.pos = s.voices.map Voice.pos ∧ t.voices.map Voice.yp = s.voices.map Voice.yp ∧
    t.voices.map Voice.vout = s.voices.map Voice.vout ∧ t.combs = s.combs ∧ t.allpasses = s.allpasses ∧
    t.dcX1 = s.dcX1 ∧ t.dcY1 = s.dcY1 ∧ t.sampleCount = s.sampleCount ∧ t.outL = s.outL ∧ t.outR = s.outR ∧
    t.tapSum = s.tapSum ∧ t.tapDc = s.tapDc ∧ t.tapRev = s.tapRev

/-! ### Invariants -/

/-- The state after RESET of a block with any parameters that meet 00_scope.md R8 meets the invariant and the bound on the
voices, and with the instance's parameters, its OPEN ones free, every bound below; `State.reset` is that of the instance,
which is the model's choice (log entry 4). -/
def Obligations.ResetMeetsInvariants : Prop :=
  (∀ c : Config, configOk c = true →
    (State.resetOf c).Inv ∧ (State.resetOf c).VoicesBounded ∧ (State.resetOf c).OutBounded ∧
      (instanceButOpen c → (State.resetOf c).PostBounded)) ∧
  State.reset.Inv ∧ State.reset.VoicesBounded ∧ State.reset.PostBounded ∧ State.reset.OutBounded ∧
    instanceButOpen State.reset.cfg

/-- Every step keeps the invariant: indices in range, seeds nonzero, memories canonical and inside their sizes, as many
units as parameters, hardwired bits, both channels alike (10_state.md R58). -/
def Obligations.StepKeepsInvariant : Prop := ∀ s t : State, s.Inv → step s = .next t → t.Inv

/-- From a state that meets the invariant every step goes on: the block cannot lock up (60_exceptions.md R314). -/
def Obligations.StepNeverStops : Prop := ∀ s : State, s.Inv → ∃ t, step s = .next t

/-- The voices' cells, filter states and outputs stay in [-1, 1], for every configuration that meets R8 and every word in
every register (43_voice_engine.md R255, R256). -/
def Obligations.StepKeepsVoicesBounded : Prop :=
  ∀ s t : State, s.Inv → s.VoicesBounded → step s = .next t → t.VoicesBounded

/-- No value of the post chain ever leaves its bound, so none is ever a NaN or an infinity, and every emitted sample is in
[-1, 1]: for the spec's instance with its OPEN parameters free, and every word in every register (44_post_chain.md R283
to R286). -/
def Obligations.StepKeepsAudioBounded : Prop :=
  ∀ s t : State, s.Inv → s.VoicesBounded → s.PostBounded → s.OutBounded → instanceButOpen s.cfg →
    step s = .next t → t.PostBounded ∧ t.OutBounded ∧ instanceButOpen t.cfg
end

