-- ==== Sys2Proof/Laws/State.lean ====
section
/-! SUPPORT. What each field is after each named update of a state or of a voice: one lemma per field, true by unfolding. -/

namespace Sys2Proof.Machine

/-! ### State.quiet -/

@[simp] theorem State.quiet_cfg (s : State) : s.quiet.cfg = s.cfg := rfl
@[simp] theorem State.quiet_ctrl (s : State) : s.quiet.ctrl = s.ctrl := rfl
@[simp] theorem State.quiet_status (s : State) : s.quiet.status = s.status := rfl
@[simp] theorem State.quiet_sampleCount (s : State) : s.quiet.sampleCount = s.sampleCount := rfl
@[simp] theorem State.quiet_outL (s : State) : s.quiet.outL = s.outL := rfl
@[simp] theorem State.quiet_outR (s : State) : s.quiet.outR = s.outR := rfl
@[simp] theorem State.quiet_tapSum (s : State) : s.quiet.tapSum = s.tapSum := rfl
@[simp] theorem State.quiet_tapDc (s : State) : s.quiet.tapDc = s.tapDc := rfl
@[simp] theorem State.quiet_tapRev (s : State) : s.quiet.tapRev = s.tapRev := rfl
@[simp] theorem State.quiet_dlSel (s : State) : s.quiet.dlSel = s.dlSel := rfl
@[simp] theorem State.quiet_shGlobal (s : State) : s.quiet.shGlobal = s.shGlobal := rfl
@[simp] theorem State.quiet_actGlobal (s : State) : s.quiet.actGlobal = s.actGlobal := rfl
@[simp] theorem State.quiet_voices (s : State) : s.quiet.voices = s.voices := rfl
@[simp] theorem State.quiet_lfos (s : State) : s.quiet.lfos = s.lfos := rfl
@[simp] theorem State.quiet_dcX1 (s : State) : s.quiet.dcX1 = s.dcX1 := rfl
@[simp] theorem State.quiet_dcY1 (s : State) : s.quiet.dcY1 = s.dcY1 := rfl
@[simp] theorem State.quiet_combs (s : State) : s.quiet.combs = s.combs := rfl
@[simp] theorem State.quiet_allpasses (s : State) : s.quiet.allpasses = s.allpasses := rfl
@[simp] theorem State.quiet_portL (s : State) : s.quiet.portL = s.portL := rfl
@[simp] theorem State.quiet_portR (s : State) : s.quiet.portR = s.portR := rfl
@[simp] theorem State.quiet_portValid (s : State) : s.quiet.portValid = false := rfl
@[simp] theorem State.quiet_rdata (s : State) : s.quiet.rdata = none := rfl
@[simp] theorem State.quiet_events (s : State) : s.quiet.events = s.events := rfl

/-! ### State.flag -/

@[simp] theorem State.flag_cfg (b : Nat) (s : State) : (s.flag b).cfg = s.cfg := rfl
@[simp] theorem State.flag_ctrl (b : Nat) (s : State) : (s.flag b).ctrl = s.ctrl := rfl
@[simp] theorem State.flag_status (b : Nat) (s : State) : (s.flag b).status = s.status ||| (1#32 <<< b) := rfl
@[simp] theorem State.flag_sampleCount (b : Nat) (s : State) : (s.flag b).sampleCount = s.sampleCount := rfl
@[simp] theorem State.flag_outL (b : Nat) (s : State) : (s.flag b).outL = s.outL := rfl
@[simp] theorem State.flag_outR (b : Nat) (s : State) : (s.flag b).outR = s.outR := rfl
@[simp] theorem State.flag_tapSum (b : Nat) (s : State) : (s.flag b).tapSum = s.tapSum := rfl
@[simp] theorem State.flag_tapDc (b : Nat) (s : State) : (s.flag b).tapDc = s.tapDc := rfl
@[simp] theorem State.flag_tapRev (b : Nat) (s : State) : (s.flag b).tapRev = s.tapRev := rfl
@[simp] theorem State.flag_dlSel (b : Nat) (s : State) : (s.flag b).dlSel = s.dlSel := rfl
@[simp] theorem State.flag_shGlobal (b : Nat) (s : State) : (s.flag b).shGlobal = s.shGlobal := rfl
@[simp] theorem State.flag_actGlobal (b : Nat) (s : State) : (s.flag b).actGlobal = s.actGlobal := rfl
@[simp] theorem State.flag_voices (b : Nat) (s : State) : (s.flag b).voices = s.voices := rfl
@[simp] theorem State.flag_lfos (b : Nat) (s : State) : (s.flag b).lfos = s.lfos := rfl
@[simp] theorem State.flag_dcX1 (b : Nat) (s : State) : (s.flag b).dcX1 = s.dcX1 := rfl
@[simp] theorem State.flag_dcY1 (b : Nat) (s : State) : (s.flag b).dcY1 = s.dcY1 := rfl
@[simp] theorem State.flag_combs (b : Nat) (s : State) : (s.flag b).combs = s.combs := rfl
@[simp] theorem State.flag_allpasses (b : Nat) (s : State) : (s.flag b).allpasses = s.allpasses := rfl
@[simp] theorem State.flag_portL (b : Nat) (s : State) : (s.flag b).portL = s.portL := rfl
@[simp] theorem State.flag_portR (b : Nat) (s : State) : (s.flag b).portR = s.portR := rfl
@[simp] theorem State.flag_portValid (b : Nat) (s : State) : (s.flag b).portValid = s.portValid := rfl
@[simp] theorem State.flag_rdata (b : Nat) (s : State) : (s.flag b).rdata = s.rdata := rfl
@[simp] theorem State.flag_events (b : Nat) (s : State) : (s.flag b).events = s.events := rfl

/-! ### State.emitted -/

@[simp] theorem State.emitted_cfg (a b : Word) (s : State) : (s.emitted a b).cfg = s.cfg := rfl
@[simp] theorem State.emitted_ctrl (a b : Word) (s : State) : (s.emitted a b).ctrl = s.ctrl := rfl
@[simp] theorem State.emitted_status (a b : Word) (s : State) : (s.emitted a b).status = s.status := rfl
@[simp] theorem State.emitted_sampleCount (a b : Word) (s : State) : (s.emitted a b).sampleCount = s.sampleCount := rfl
@[simp] theorem State.emitted_outL (a b : Word) (s : State) : (s.emitted a b).outL = s.outL := rfl
@[simp] theorem State.emitted_outR (a b : Word) (s : State) : (s.emitted a b).outR = s.outR := rfl
@[simp] theorem State.emitted_tapSum (a b : Word) (s : State) : (s.emitted a b).tapSum = s.tapSum := rfl
@[simp] theorem State.emitted_tapDc (a b : Word) (s : State) : (s.emitted a b).tapDc = s.tapDc := rfl
@[simp] theorem State.emitted_tapRev (a b : Word) (s : State) : (s.emitted a b).tapRev = s.tapRev := rfl
@[simp] theorem State.emitted_dlSel (a b : Word) (s : State) : (s.emitted a b).dlSel = s.dlSel := rfl
@[simp] theorem State.emitted_shGlobal (a b : Word) (s : State) : (s.emitted a b).shGlobal = s.shGlobal := rfl
@[simp] theorem State.emitted_actGlobal (a b : Word) (s : State) : (s.emitted a b).actGlobal = s.actGlobal := rfl
@[simp] theorem State.emitted_voices (a b : Word) (s : State) : (s.emitted a b).voices = s.voices := rfl
@[simp] theorem State.emitted_lfos (a b : Word) (s : State) : (s.emitted a b).lfos = s.lfos := rfl
@[simp] theorem State.emitted_dcX1 (a b : Word) (s : State) : (s.emitted a b).dcX1 = s.dcX1 := rfl
@[simp] theorem State.emitted_dcY1 (a b : Word) (s : State) : (s.emitted a b).dcY1 = s.dcY1 := rfl
@[simp] theorem State.emitted_combs (a b : Word) (s : State) : (s.emitted a b).combs = s.combs := rfl
@[simp] theorem State.emitted_allpasses (a b : Word) (s : State) : (s.emitted a b).allpasses = s.allpasses := rfl
@[simp] theorem State.emitted_portL (a b : Word) (s : State) : (s.emitted a b).portL = a := rfl
@[simp] theorem State.emitted_portR (a b : Word) (s : State) : (s.emitted a b).portR = b := rfl
@[simp] theorem State.emitted_portValid (a b : Word) (s : State) : (s.emitted a b).portValid = true := rfl
@[simp] theorem State.emitted_rdata (a b : Word) (s : State) : (s.emitted a b).rdata = none := rfl
@[simp] theorem State.emitted_events (a b : Word) (s : State) : (s.emitted a b).events = s.events := rfl

/-! ### silentTick -/

@[simp] theorem silentTick_cfg (s : State) : (silentTick s).cfg = s.cfg := rfl
@[simp] theorem silentTick_ctrl (s : State) : (silentTick s).ctrl = s.ctrl := rfl
@[simp] theorem silentTick_status (s : State) : (silentTick s).status = s.status := rfl
@[simp] theorem silentTick_sampleCount (s : State) : (silentTick s).sampleCount = s.sampleCount := rfl
@[simp] theorem silentTick_outL (s : State) : (silentTick s).outL = zero32 := rfl
@[simp] theorem silentTick_outR (s : State) : (silentTick s).outR = zero32 := rfl
@[simp] theorem silentTick_tapSum (s : State) : (silentTick s).tapSum = s.tapSum := rfl
@[simp] theorem silentTick_tapDc (s : State) : (silentTick s).tapDc = s.tapDc := rfl
@[simp] theorem silentTick_tapRev (s : State) : (silentTick s).tapRev = s.tapRev := rfl
@[simp] theorem silentTick_dlSel (s : State) : (silentTick s).dlSel = s.dlSel := rfl
@[simp] theorem silentTick_shGlobal (s : State) : (silentTick s).shGlobal = s.shGlobal := rfl
@[simp] theorem silentTick_actGlobal (s : State) : (silentTick s).actGlobal = s.actGlobal := rfl
@[simp] theorem silentTick_voices (s : State) : (silentTick s).voices = s.voices := rfl
@[simp] theorem silentTick_lfos (s : State) : (silentTick s).lfos = s.lfos := rfl
@[simp] theorem silentTick_dcX1 (s : State) : (silentTick s).dcX1 = s.dcX1 := rfl
@[simp] theorem silentTick_dcY1 (s : State) : (silentTick s).dcY1 = s.dcY1 := rfl
@[simp] theorem silentTick_combs (s : State) : (silentTick s).combs = s.combs := rfl
@[simp] theorem silentTick_allpasses (s : State) : (silentTick s).allpasses = s.allpasses := rfl
@[simp] theorem silentTick_portL (s : State) : (silentTick s).portL = zero32 := rfl
@[simp] theorem silentTick_portR (s : State) : (silentTick s).portR = zero32 := rfl
@[simp] theorem silentTick_portValid (s : State) : (silentTick s).portValid = true := rfl
@[simp] theorem silentTick_rdata (s : State) : (silentTick s).rdata = none := rfl
@[simp] theorem silentTick_events (s : State) : (silentTick s).events = s.events := rfl

/-! ### enabledTick -/

@[simp] theorem enabledTick_cfg (s : State) : (enabledTick s).cfg = s.cfg := by simp only [enabledTick, State.emitted]
@[simp] theorem enabledTick_ctrl (s : State) : (enabledTick s).ctrl = s.ctrl := by simp only [enabledTick, State.emitted]
@[simp] theorem enabledTick_status (s : State) : (enabledTick s).status = s.status := by simp only [enabledTick, State.emitted]
@[simp] theorem enabledTick_sampleCount (s : State) : (enabledTick s).sampleCount = s.sampleCount + 1 := by simp only [enabledTick, State.emitted]
@[simp] theorem enabledTick_outL (s : State) : (enabledTick s).outL = tickOut s := by simp only [enabledTick, State.emitted]
@[simp] theorem enabledTick_outR (s : State) : (enabledTick s).outR = tickOut s := by simp only [enabledTick, State.emitted]
@[simp] theorem enabledTick_tapSum (s : State) : (enabledTick s).tapSum = tickSum s := by simp only [enabledTick, State.emitted]
@[simp] theorem enabledTick_tapDc (s : State) : (enabledTick s).tapDc = tickDc s := by simp only [enabledTick, State.emitted]
@[simp] theorem enabledTick_tapRev (s : State) : (enabledTick s).tapRev = tickRev s := by simp only [enabledTick, State.emitted]
@[simp] theorem enabledTick_dlSel (s : State) : (enabledTick s).dlSel = s.dlSel := by simp only [enabledTick, State.emitted]
@[simp] theorem enabledTick_shGlobal (s : State) : (enabledTick s).shGlobal = s.shGlobal := by simp only [enabledTick, State.emitted]
@[simp] theorem enabledTick_actGlobal (s : State) : (enabledTick s).actGlobal = s.actGlobal := by simp only [enabledTick, State.emitted]
@[simp] theorem enabledTick_voices (s : State) : (enabledTick s).voices = tickVoices s := by simp only [enabledTick, State.emitted]
@[simp] theorem enabledTick_lfos (s : State) : (enabledTick s).lfos = s.lfos.map (Lfo.advance s.cfg) := by simp only [enabledTick, State.emitted]
@[simp] theorem enabledTick_dcX1 (s : State) : (enabledTick s).dcX1 = tickSum s := by simp only [enabledTick, State.emitted]
@[simp] theorem enabledTick_dcY1 (s : State) : (enabledTick s).dcY1 = tickDc s := by simp only [enabledTick, State.emitted]
@[simp] theorem enabledTick_combs (s : State) : (enabledTick s).combs = tickCombs s := by simp only [enabledTick, State.emitted]
@[simp] theorem enabledTick_allpasses (s : State) : (enabledTick s).allpasses = tickAllpasses s := by simp only [enabledTick, State.emitted]
@[simp] theorem enabledTick_portL (s : State) : (enabledTick s).portL = tickOut s := by simp only [enabledTick, State.emitted]
@[simp] theorem enabledTick_portR (s : State) : (enabledTick s).portR = tickOut s := by simp only [enabledTick, State.emitted]
@[simp] theorem enabledTick_portValid (s : State) : (enabledTick s).portValid = true := by simp only [enabledTick, State.emitted]
@[simp] theorem enabledTick_rdata (s : State) : (enabledTick s).rdata = none := by simp only [enabledTick, State.emitted]
@[simp] theorem enabledTick_events (s : State) : (enabledTick s).events = s.events := by simp only [enabledTick, State.emitted]

/-! ### State.commit -/

@[simp] theorem State.commit_cfg (s : State) : s.commit.cfg = s.cfg := rfl
@[simp] theorem State.commit_ctrl (s : State) : s.commit.ctrl = s.ctrl := rfl
@[simp] theorem State.commit_status (s : State) : s.commit.status = s.status := rfl
@[simp] theorem State.commit_sampleCount (s : State) : s.commit.sampleCount = s.sampleCount := rfl
@[simp] theorem State.commit_outL (s : State) : s.commit.outL = s.outL := rfl
@[simp] theorem State.commit_outR (s : State) : s.commit.outR = s.outR := rfl
@[simp] theorem State.commit_tapSum (s : State) : s.commit.tapSum = s.tapSum := rfl
@[simp] theorem State.commit_tapDc (s : State) : s.commit.tapDc = s.tapDc := rfl
@[simp] theorem State.commit_tapRev (s : State) : s.commit.tapRev = s.tapRev := rfl
@[simp] theorem State.commit_dlSel (s : State) : s.commit.dlSel = s.dlSel := rfl
@[simp] theorem State.commit_shGlobal (s : State) : s.commit.shGlobal = s.shGlobal := rfl
@[simp] theorem State.commit_actGlobal (s : State) : s.commit.actGlobal = s.shGlobal := rfl
@[simp] theorem State.commit_voices (s : State) : s.commit.voices = s.voices.map Voice.commit := rfl
@[simp] theorem State.commit_lfos (s : State) : s.commit.lfos = s.lfos.map Lfo.commit := rfl
@[simp] theorem State.commit_dcX1 (s : State) : s.commit.dcX1 = s.dcX1 := rfl
@[simp] theorem State.commit_dcY1 (s : State) : s.commit.dcY1 = s.dcY1 := rfl
@[simp] theorem State.commit_combs (s : State) : s.commit.combs = s.combs := rfl
@[simp] theorem State.commit_allpasses (s : State) : s.commit.allpasses = s.allpasses := rfl
@[simp] theorem State.commit_portL (s : State) : s.commit.portL = s.portL := rfl
@[simp] theorem State.commit_portR (s : State) : s.commit.portR = s.portR := rfl
@[simp] theorem State.commit_portValid (s : State) : s.commit.portValid = s.portValid := rfl
@[simp] theorem State.commit_rdata (s : State) : s.commit.rdata = s.rdata := rfl
@[simp] theorem State.commit_events (s : State) : s.commit.events = s.events := rfl

/-! ### State.clear -/

@[simp] theorem State.clear_cfg (s : State) : s.clear.cfg = s.cfg := rfl
@[simp] theorem State.clear_ctrl (s : State) : s.clear.ctrl = s.ctrl := rfl
@[simp] theorem State.clear_status (s : State) : s.clear.status = s.status := rfl
@[simp] theorem State.clear_sampleCount (s : State) : s.clear.sampleCount = s.sampleCount := rfl
@[simp] theorem State.clear_outL (s : State) : s.clear.outL = zero32 := rfl
@[simp] theorem State.clear_outR (s : State) : s.clear.outR = zero32 := rfl
@[simp] theorem State.clear_tapSum (s : State) : s.clear.tapSum = zero32 := rfl
@[simp] theorem State.clear_tapDc (s : State) : s.clear.tapDc = zero32 := rfl
@[simp] theorem State.clear_tapRev (s : State) : s.clear.tapRev = zero32 := rfl
@[simp] theorem State.clear_dlSel (s : State) : s.clear.dlSel = s.dlSel := rfl
@[simp] theorem State.clear_shGlobal (s : State) : s.clear.shGlobal = s.shGlobal := rfl
@[simp] theorem State.clear_actGlobal (s : State) : s.clear.actGlobal = s.actGlobal := rfl
@[simp] theorem State.clear_voices (s : State) : s.clear.voices = s.voices.map Voice.clear := rfl
@[simp] theorem State.clear_lfos (s : State) : s.clear.lfos = s.lfos.map Lfo.clear := rfl
@[simp] theorem State.clear_dcX1 (s : State) : s.clear.dcX1 = zero32 := rfl
@[simp] theorem State.clear_dcY1 (s : State) : s.clear.dcY1 = zero32 := rfl
@[simp] theorem State.clear_combs (s : State) : s.clear.combs = s.combs.map fun _ => Comb.clear := rfl
@[simp] theorem State.clear_allpasses (s : State) : s.clear.allpasses = s.allpasses.map fun _ => Allpass.clear := rfl
@[simp] theorem State.clear_portL (s : State) : s.clear.portL = s.portL := rfl
@[simp] theorem State.clear_portR (s : State) : s.clear.portR = s.portR := rfl
@[simp] theorem State.clear_portValid (s : State) : s.clear.portValid = s.portValid := rfl
@[simp] theorem State.clear_rdata (s : State) : s.clear.rdata = s.rdata := rfl
@[simp] theorem State.clear_events (s : State) : s.clear.events = s.events := rfl

/-! ### State.present -/

@[simp] theorem State.present_cfg (e : Event) (s : State) : (s.present e).cfg = s.cfg := rfl
@[simp] theorem State.present_ctrl (e : Event) (s : State) : (s.present e).ctrl = s.ctrl := rfl
@[simp] theorem State.present_status (e : Event) (s : State) : (s.present e).status = s.status := rfl
@[simp] theorem State.present_sampleCount (e : Event) (s : State) : (s.present e).sampleCount = s.sampleCount := rfl
@[simp] theorem State.present_outL (e : Event) (s : State) : (s.present e).outL = s.outL := rfl
@[simp] theorem State.present_outR (e : Event) (s : State) : (s.present e).outR = s.outR := rfl
@[simp] theorem State.present_tapSum (e : Event) (s : State) : (s.present e).tapSum = s.tapSum := rfl
@[simp] theorem State.present_tapDc (e : Event) (s : State) : (s.present e).tapDc = s.tapDc := rfl
@[simp] theorem State.present_tapRev (e : Event) (s : State) : (s.present e).tapRev = s.tapRev := rfl
@[simp] theorem State.present_dlSel (e : Event) (s : State) : (s.present e).dlSel = s.dlSel := rfl
@[simp] theorem State.present_shGlobal (e : Event) (s : State) : (s.present e).shGlobal = s.shGlobal := rfl
@[simp] theorem State.present_actGlobal (e : Event) (s : State) : (s.present e).actGlobal = s.actGlobal := rfl
@[simp] theorem State.present_voices (e : Event) (s : State) : (s.present e).voices = s.voices := rfl
@[simp] theorem State.present_lfos (e : Event) (s : State) : (s.present e).lfos = s.lfos := rfl
@[simp] theorem State.present_dcX1 (e : Event) (s : State) : (s.present e).dcX1 = s.dcX1 := rfl
@[simp] theorem State.present_dcY1 (e : Event) (s : State) : (s.present e).dcY1 = s.dcY1 := rfl
@[simp] theorem State.present_combs (e : Event) (s : State) : (s.present e).combs = s.combs := rfl
@[simp] theorem State.present_allpasses (e : Event) (s : State) : (s.present e).allpasses = s.allpasses := rfl
@[simp] theorem State.present_portL (e : Event) (s : State) : (s.present e).portL = s.portL := rfl
@[simp] theorem State.present_portR (e : Event) (s : State) : (s.present e).portR = s.portR := rfl
@[simp] theorem State.present_portValid (e : Event) (s : State) : (s.present e).portValid = s.portValid := rfl
@[simp] theorem State.present_rdata (e : Event) (s : State) : (s.present e).rdata = s.rdata := rfl
@[simp] theorem State.present_events (e : Event) (s : State) : (s.present e).events = e :: s.events := rfl

/-! ### Voice.excite -/

@[simp] theorem Voice.excite_sh (v : Voice) : v.excite.sh = v.sh := rfl
@[simp] theorem Voice.excite_act (v : Voice) : v.excite.act = v.act := rfl
@[simp] theorem Voice.excite_trigPending (v : Voice) : v.excite.trigPending = v.trigPending := rfl
@[simp] theorem Voice.excite_buf (v : Voice) : v.excite.buf = (fill v.len 0 v.seed v.buf).1 := rfl
@[simp] theorem Voice.excite_len (v : Voice) : v.excite.len = v.len := rfl
@[simp] theorem Voice.excite_pos (v : Voice) : v.excite.pos = 0 := rfl
@[simp] theorem Voice.excite_yp (v : Voice) : v.excite.yp = zero32 := rfl
@[simp] theorem Voice.excite_vout (v : Voice) : v.excite.vout = v.vout := rfl
@[simp] theorem Voice.excite_seed (v : Voice) : v.excite.seed = (fill v.len 0 v.seed v.buf).2 := rfl

/-! ### Voice.emit -/

@[simp] theorem Voice.emit_sh (y : Word) (v : Voice) : (v.emit y).sh = v.sh := rfl
@[simp] theorem Voice.emit_act (y : Word) (v : Voice) : (v.emit y).act = v.act := rfl
@[simp] theorem Voice.emit_trigPending (y : Word) (v : Voice) : (v.emit y).trigPending = v.trigPending := rfl
@[simp] theorem Voice.emit_buf (y : Word) (v : Voice) : (v.emit y).buf = Memory.write v.buf v.pos y := rfl
@[simp] theorem Voice.emit_len (y : Word) (v : Voice) : (v.emit y).len = v.len := rfl
@[simp] theorem Voice.emit_pos (y : Word) (v : Voice) : (v.emit y).pos = (v.pos + 1) % v.len := rfl
@[simp] theorem Voice.emit_yp (y : Word) (v : Voice) : (v.emit y).yp = y := rfl
@[simp] theorem Voice.emit_vout (y : Word) (v : Voice) : (v.emit y).vout = y := rfl
@[simp] theorem Voice.emit_seed (y : Word) (v : Voice) : (v.emit y).seed = v.seed := rfl

/-! ### Voice.commit -/

@[simp] theorem Voice.commit_sh (v : Voice) : v.commit.sh = v.sh := rfl
@[simp] theorem Voice.commit_act (v : Voice) : v.commit.act = v.sh := rfl
@[simp] theorem Voice.commit_trigPending (v : Voice) : v.commit.trigPending = v.trigPending := rfl
@[simp] theorem Voice.commit_buf (v : Voice) : v.commit.buf = v.buf := rfl
@[simp] theorem Voice.commit_len (v : Voice) : v.commit.len = v.len := rfl
@[simp] theorem Voice.commit_pos (v : Voice) : v.commit.pos = v.pos := rfl
@[simp] theorem Voice.commit_yp (v : Voice) : v.commit.yp = v.yp := rfl
@[simp] theorem Voice.commit_vout (v : Voice) : v.commit.vout = v.vout := rfl
@[simp] theorem Voice.commit_seed (v : Voice) : v.commit.seed = v.seed := rfl

/-! ### Voice.clear -/

@[simp] theorem Voice.clear_sh (v : Voice) : v.clear.sh = v.sh := rfl
@[simp] theorem Voice.clear_act (v : Voice) : v.clear.act = v.act := rfl
@[simp] theorem Voice.clear_trigPending (v : Voice) : v.clear.trigPending = false := rfl
@[simp] theorem Voice.clear_buf (v : Voice) : v.clear.buf = [] := rfl
@[simp] theorem Voice.clear_len (v : Voice) : v.clear.len = v.len := rfl
@[simp] theorem Voice.clear_pos (v : Voice) : v.clear.pos = 0 := rfl
@[simp] theorem Voice.clear_yp (v : Voice) : v.clear.yp = zero32 := rfl
@[simp] theorem Voice.clear_vout (v : Voice) : v.clear.vout = zero32 := rfl
@[simp] theorem Voice.clear_seed (v : Voice) : v.clear.seed = v.seed := rfl

/-! ### Voice.resize and Voice.consume -/

@[simp] theorem Voice.resize_len (l : Nat) (v : Voice) : (v.resize l).len = l := by
  unfold Voice.resize; split <;> simp_all
@[simp] theorem Voice.resize_sh (l : Nat) (v : Voice) : (v.resize l).sh = v.sh := by
  unfold Voice.resize; split <;> rfl
@[simp] theorem Voice.resize_act (l : Nat) (v : Voice) : (v.resize l).act = v.act := by
  unfold Voice.resize; split <;> rfl
@[simp] theorem Voice.resize_trigPending (l : Nat) (v : Voice) : (v.resize l).trigPending = v.trigPending := by
  unfold Voice.resize; split <;> rfl
@[simp] theorem Voice.resize_buf (l : Nat) (v : Voice) : (v.resize l).buf = v.buf := by
  unfold Voice.resize; split <;> rfl
@[simp] theorem Voice.resize_yp (l : Nat) (v : Voice) : (v.resize l).yp = v.yp := by
  unfold Voice.resize; split <;> rfl
@[simp] theorem Voice.resize_vout (l : Nat) (v : Voice) : (v.resize l).vout = v.vout := by
  unfold Voice.resize; split <;> rfl
@[simp] theorem Voice.resize_seed (l : Nat) (v : Voice) : (v.resize l).seed = v.seed := by
  unfold Voice.resize; split <;> rfl
@[simp] theorem Voice.consume_sh (v : Voice) : v.consume.sh = v.sh := by
  unfold Voice.consume; split <;> rfl
@[simp] theorem Voice.consume_act (v : Voice) : v.consume.act = v.act := by
  unfold Voice.consume; split <;> rfl
@[simp] theorem Voice.consume_len (v : Voice) : v.consume.len = v.len := by
  unfold Voice.consume; split <;> rfl
@[simp] theorem Voice.consume_vout (v : Voice) : v.consume.vout = v.vout := by
  unfold Voice.consume; split <;> rfl
@[simp] theorem Voice.consume_trigPending (v : Voice) : v.consume.trigPending = false := by
  unfold Voice.consume; split <;> simp_all

/-! ### LFOs -/

@[simp] theorem Lfo.advance_shFreq (c : Config) (x : Lfo) : (x.advance c).shFreq = x.shFreq := by unfold Lfo.advance; rfl
@[simp] theorem Lfo.advance_actFreq (c : Config) (x : Lfo) : (x.advance c).actFreq = x.actFreq := by unfold Lfo.advance; rfl
@[simp] theorem Lfo.advance_phase (c : Config) (x : Lfo) : (x.advance c).phase = x.phase + lfoIncrement c x.actFreq := rfl
@[simp] theorem LfoBank.map_l0 (f : Lfo → Lfo) (b : LfoBank) : (b.map f).l0 = f b.l0 := rfl
@[simp] theorem LfoBank.map_l1 (f : Lfo → Lfo) (b : LfoBank) : (b.map f).l1 = f b.l1 := rfl
@[simp] theorem LfoBank.map_l2 (f : Lfo → Lfo) (b : LfoBank) : (b.map f).l2 = f b.l2 := rfl
@[simp] theorem LfoBank.get_zero (b : LfoBank) : b.get 0#2 = some b.l0 := rfl
@[simp] theorem LfoBank.get_one (b : LfoBank) : b.get 1#2 = some b.l1 := rfl
@[simp] theorem LfoBank.get_two (b : LfoBank) : b.get 2#2 = some b.l2 := rfl
@[simp] theorem LfoBank.get_three (b : LfoBank) : b.get 3#2 = none := rfl

end Sys2Proof.Machine
end

