-- ==== Sys2Proof/Laws/Cells.lean ====
section
/-! SUPPORT. The laws of the cell memories: reads after writes, and the canonical form kept by every operation. -/

namespace Sys2Proof.Machine

@[simp] theorem Memory.read_nil (k : Nat) : Memory.read [] k = Memory.unlisted := rfl

theorem Memory.read_eq_unlisted {m : Memory} {k : Nat} (h : ∀ e ∈ m, e.1 ≠ k) :
    Memory.read m k = Memory.unlisted := by
  induction m with
  | nil => rfl
  | cons e m ih =>
    obtain ⟨j, x⟩ := e
    simp only [List.mem_cons, forall_eq_or_imp] at h
    simp only [Memory.read, if_neg h.1, ih h.2]

/-- A written cell reads back the word written. -/
theorem Memory.read_write_self {m : Memory} (h : Memory.wf m) (k : Nat) (w : Word) :
    Memory.read (Memory.write m k w) k = w := by
  obtain ⟨hs, -⟩ := h
  induction m with
  | nil => unfold Memory.write; split <;> simp_all [Memory.read]
  | cons e m ih =>
    obtain ⟨j, x⟩ := e
    rw [List.pairwise_cons] at hs
    unfold Memory.write
    split_ifs with h1 h2 h3 h4
    · have hne : ∀ e ∈ m, e.1 ≠ k := fun e he => by have := hs.1 e he; simp at this; omega
      simp [Memory.read, show j ≠ k by omega, Memory.read_eq_unlisted hne, h2]
    · simp [Memory.read]
    · have hne : ∀ e ∈ m, e.1 ≠ k := fun e he => by have := hs.1 e he; simp at this; omega
      simp [Memory.read_eq_unlisted hne, h4]
    · simp [Memory.read]
    · simp [Memory.read, show j ≠ k by omega, ih hs.2]

/-- A write leaves every other cell alone. -/
theorem Memory.read_write_of_ne (m : Memory) {k a : Nat} (w : Word) (h : a ≠ k) :
    Memory.read (Memory.write m k w) a = Memory.read m a := by
  induction m with
  | nil => unfold Memory.write; split <;> simp [Memory.read, h.symm]
  | cons e m ih =>
    obtain ⟨j, x⟩ := e
    unfold Memory.write
    split_ifs with h1 h2 h3 h4
    · rfl
    · simp [Memory.read, h.symm]
    · simp [Memory.read, show j ≠ a by omega]
    · simp [Memory.read, show j ≠ a by omega, h.symm]
    · simp [Memory.read, ih]

/-- Every entry after a write is an old one or the written one. -/
theorem Memory.mem_write {m : Memory} {k : Nat} {w : Word} {e : Nat × Word} (h : e ∈ Memory.write m k w) :
    e ∈ m ∨ (e = (k, w) ∧ w ≠ Memory.unlisted) := by
  induction m with
  | nil => unfold Memory.write at h; split at h <;> simp_all
  | cons a m ih =>
    obtain ⟨j, x⟩ := a
    unfold Memory.write at h
    split_ifs at h with h1 h2 h3 h4
    · exact .inl h
    · rcases List.mem_cons.1 h with rfl | h
      · exact .inr ⟨rfl, h2⟩
      · exact .inl h
    · exact .inl (List.mem_cons_of_mem _ h)
    · rcases List.mem_cons.1 h with rfl | h
      · exact .inr ⟨rfl, h4⟩
      · exact .inl (List.mem_cons_of_mem _ h)
    · rcases List.mem_cons.1 h with rfl | h
      · exact .inl List.mem_cons_self
      · exact (ih h).imp (List.mem_cons_of_mem _) id

/-- A write keeps the canonical form. -/
theorem Memory.write_wf {m : Memory} (h : Memory.wf m) (k : Nat) (w : Word) : Memory.wf (Memory.write m k w) := by
  refine ⟨?_, fun e he => ?_⟩
  · obtain ⟨hs, -⟩ := h
    induction m with
    | nil => unfold Memory.write; split <;> simp
    | cons a m ih =>
      obtain ⟨j, x⟩ := a
      have hc := List.pairwise_cons.1 hs
      unfold Memory.write
      split_ifs with h1 h2 h3 h4
      · exact hs
      · refine List.pairwise_cons.2 ⟨fun e he => ?_, hs⟩
        rcases List.mem_cons.1 he with rfl | he
        · exact h1
        · exact lt_trans h1 (hc.1 e he)
      · exact hc.2
      · exact List.pairwise_cons.2 ⟨fun e he => by have := hc.1 e he; simp at this ⊢; omega, hc.2⟩
      · refine List.pairwise_cons.2 ⟨fun e he => ?_, ih hc.2⟩
        rcases Memory.mem_write he with he | ⟨rfl, -⟩
        · exact hc.1 e he
        · simp; omega
  · rcases Memory.mem_write he with he | ⟨rfl, hw⟩
    · exact h.2 e he
    · exact hw

/-- A write to a cell that exists lists no cell that does not. -/
theorem Memory.write_below {m : Memory} {n k : Nat} (h : Memory.below n m) (hk : k < n) (w : Word) :
    Memory.below n (Memory.write m k w) := fun e he => by
  rcases Memory.mem_write he with he | ⟨rfl, -⟩
  · exact h e he
  · exact hk

theorem Memory.write_ok {m : Memory} {n k : Nat} (h : Memory.ok n m) (hk : k < n) (w : Word) :
    Memory.ok n (Memory.write m k w) := ⟨Memory.write_wf h.1 k w, Memory.write_below h.2 hk w⟩

/-- The fill of an excitation keeps the canonical form. -/
theorem fill_wf (n : Nat) : ∀ (k : Nat) (s : Word) (m : Memory), Memory.wf m → Memory.wf (fill n k s m).1 := by
  induction n with
  | zero => exact fun _ _ _ h => h
  | succ n ih => exact fun k s m h => ih (k + 1) (xs32 s) _ (Memory.write_wf h k _)

/-- The fill of n cells from k on lists no cell at or beyond c, where k + n <= c. -/
theorem fill_below {c : Nat} (n : Nat) :
    ∀ (k : Nat) (s : Word) (m : Memory), k + n ≤ c → Memory.below c m → Memory.below c (fill n k s m).1 := by
  induction n with
  | zero => exact fun _ _ _ _ h => h
  | succ n ih =>
    exact fun k s m hk h => ih (k + 1) (xs32 s) _ (by omega) (Memory.write_below h (by omega) _)

/-- The memories of the machine after reset are canonical. -/
theorem reset_memories_wf :
    (∀ v ∈ State.reset.voices, Memory.wf v.buf) ∧ (∀ x ∈ State.reset.combs, Memory.wf x.buf) ∧
      ∀ x ∈ State.reset.allpasses, Memory.wf x.buf := by
  refine ⟨fun v hv => ?_, fun x hx => ?_, fun x hx => ?_⟩
  · obtain ⟨p, -, rfl⟩ := List.mem_map.1 hv
    simp [Voice.reset, Memory.wf]
  · obtain ⟨p, -, rfl⟩ := List.mem_map.1 hx
    simp [Comb.clear, Memory.wf]
  · obtain ⟨p, -, rfl⟩ := List.mem_map.1 hx
    simp [Allpass.clear, Memory.wf]

end Sys2Proof.Machine
end

