-- ==== Sys2Proof/Laws/Float.lean ====
section
/-! SUPPORT. What sign, magnitude, packing and negation of binary32 words do, said once. -/

namespace Sys2Proof.Machine

theorem magBits_lt (w : Word) : magBits w < 2 ^ 31 := Nat.mod_lt _ (by decide)

/-- A packed word has the sign it was packed with. -/
@[simp] theorem signBit_pack (b : Bool) {m : Nat} (h : m < 2 ^ 31) : signBit (pack b m) = b := by
  cases b <;> simp [signBit, pack, BitVec.msb_eq_decide] <;> omega

/-- A packed word has the magnitude bits it was packed with. -/
@[simp] theorem magBits_pack (b : Bool) {m : Nat} (h : m < 2 ^ 31) : magBits (pack b m) = m := by
  cases b <;> simp [magBits, pack] <;> omega

/-- A word is its sign and its magnitude bits. -/
@[simp] theorem pack_signBit_magBits (w : Word) : pack (signBit w) (magBits w) = w := by
  have := w.isLt
  apply BitVec.eq_of_toNat_eq
  unfold pack signBit magBits
  rw [BitVec.msb_eq_decide]
  by_cases h : 2 ^ (32 - 1) ≤ w.toNat <;> simp only [h, decide_true, decide_false, if_true, Bool.false_eq_true, if_false,
    BitVec.toNat_ofNat] <;> omega

@[simp] theorem signBit_neg32 (w : Word) : signBit (neg32 w) = !signBit w := signBit_pack _ (magBits_lt w)

@[simp] theorem magBits_neg32 (w : Word) : magBits (neg32 w) = magBits w := magBits_pack _ (magBits_lt w)

@[simp] theorem isFinite_neg32 (w : Word) : isFinite (neg32 w) = isFinite w := by simp [isFinite]

@[simp] theorem isNaN_neg32 (w : Word) : isNaN (neg32 w) = isNaN w := by simp [isNaN]

@[simp] theorem isInf_neg32 (w : Word) : isInf (neg32 w) = isInf w := by simp [isInf]

/-- Negating twice gives the word back. -/
@[simp] theorem neg32_neg32 (w : Word) : neg32 (neg32 w) = w := by
  rw [neg32, signBit_neg32, magBits_neg32, Bool.not_not, pack_signBit_magBits]

/-- Negation flips bit 31 and no other. -/
theorem neg32_eq_xor (w : Word) : neg32 w = w ^^^ 0x80000000#32 := by
  have hm := magBits_lt w
  conv_rhs => rw [← pack_signBit_magBits w]
  unfold neg32
  generalize magBits w = m at hm
  have key : BitVec.ofNat 32 (2 ^ 31 + m) = BitVec.ofNat 32 m ^^^ 0x80000000#32 := by
    have h31 : (0x80000000#32 : Word) = BitVec.ofNat 32 (2 ^ 31) := rfl
    rw [h31]
    refine BitVec.eq_of_getLsbD_eq fun i hi => ?_
    rw [BitVec.getLsbD_xor, BitVec.getLsbD_ofNat, BitVec.getLsbD_ofNat, BitVec.getLsbD_ofNat, Nat.testBit_two_pow]
    by_cases h : i = 31
    · subst h
      rw [Nat.testBit_two_pow_add_eq]; simp
    · rw [Nat.testBit_two_pow_add_gt (by omega)]; simp [Ne.symm h]
  cases signBit w
  · simpa [pack] using key
  · simp only [pack, Bool.not_true, if_true, Bool.false_eq_true, if_false]
    rw [key, BitVec.xor_assoc, BitVec.xor_self, BitVec.xor_zero]

end Sys2Proof.Machine
end

