-- ==== Sys2Proof/Laws/Ops.lean ====
section
/-! SUPPORT. What each shared operation of the meanings can do, said once: callers cite these and do not unfold it. -/

namespace Sys2Proof.Machine

/-- A bus read answers its word and changes nothing else. -/
theorem respond_next {w : Word} {s t : State} (h : respond w s = .next t) :
    t = { s.quiet with rdata := some w } := by cases h; rfl

/-- A step that is not a tick answers its change of the quiet state. -/
theorem update_next {f : State → State} {s t : State} (h : update f s = .next t) : t = f s.quiet := by cases h; rfl

/-- An invalid access sets BUS_ERR and answers 0 to a read. -/
theorem invalidAccess_next {w : Bool} {s t : State} (h : invalidAccess w s = .next t) :
    t = { s.quiet.flag busErr with rdata := if w then none else some 0 } := by cases h; rfl

/-- A read of an LFO register: the word of an LFO that exists, or an invalid read. -/
theorem readLfo_cases {i : BitVec 2} {f : Lfo → Word} {s t : State} (h : readLfo i f s = .next t) :
    (∃ x, s.lfos.get i = some x ∧ t = { s.quiet with rdata := some (f x) }) ∨
      (s.lfos.get i = none ∧ t = { s.quiet.flag busErr with rdata := some 0 }) := by
  unfold readLfo at h
  split at h
  · exact .inl ⟨_, ‹_›, respond_next h⟩
  · exact .inr ⟨‹_›, invalidAccess_next h⟩

/-- A write of an LFO register: the LFO replaced, or an invalid write. -/
theorem writeLfo_cases {i : BitVec 2} {f : Lfo → Lfo} {s t : State} (h : writeLfo i f s = .next t) :
    (∃ x, s.lfos.get i = some x ∧ t = { s.quiet with lfos := s.lfos.set i (f x) }) ∨
      (s.lfos.get i = none ∧ t = s.quiet.flag busErr) := by
  unfold writeLfo at h
  split at h
  · exact .inl ⟨_, ‹_›, update_next h⟩
  · exact .inr ⟨‹_›, invalidAccess_next h⟩

/-- A read of a voice register: the word of a voice that exists, or an invalid read. -/
theorem readVoice_cases {v : BitVec 4} {f : Voice → Word} {s t : State} (h : readVoice v f s = .next t) :
    (∃ x, s.voices[v.toNat]? = some x ∧ t = { s.quiet with rdata := some (f x) }) ∨
      (s.voices[v.toNat]? = none ∧ t = { s.quiet.flag busErr with rdata := some 0 }) := by
  unfold readVoice at h
  split at h
  · exact .inl ⟨_, ‹_›, respond_next h⟩
  · exact .inr ⟨‹_›, invalidAccess_next h⟩

/-- A write of a voice register: the voice replaced, or an invalid write. -/
theorem writeVoice_cases {v : BitVec 4} {f : Voice → Voice} {s t : State} (h : writeVoice v f s = .next t) :
    (∃ x, s.voices[v.toNat]? = some x ∧ t = { s.quiet with voices := s.voices.set v.toNat (f x) }) ∨
      (s.voices[v.toNat]? = none ∧ t = s.quiet.flag busErr) := by
  unfold writeVoice at h
  split at h
  · exact .inl ⟨_, ‹_›, update_next h⟩
  · exact .inr ⟨‹_›, invalidAccess_next h⟩

/-- A tick is silent, or it is enabled and every cell it uses exists. -/
theorem tick_cases {s t : State} (h : tick s = .next t) :
    (ctrlEn s.ctrl = false ∧ t = silentTick s) ∨ (ctrlEn s.ctrl = true ∧ s.indexed = true ∧ t = enabledTick s) := by
  unfold tick at h
  split_ifs at h with h1 h2
  · cases h; exact .inr ⟨h1, h2, rfl⟩
  · cases h; exact .inl ⟨by simpa using h1, rfl⟩

/-- A step is the next event's operation on the state with that event taken, or a wait. -/
theorem step_cases {s t : State} (h : step s = .next t) :
    (s.events = [] ∧ t = s) ∨
      ∃ e es, s.events = e :: es ∧ exec (decode s.cfg.nVoices e) { s with events := es } = .next t := by
  unfold step State.fetch at h
  cases he : s.events with
  | nil => simp [he] at h; exact .inl ⟨rfl, h.symm⟩
  | cons e es => simp [he] at h; exact .inr ⟨e, es, rfl, h⟩

end Sys2Proof.Machine
end

