-- ==== Sys2Proof/Laws/PerInstr.lean ====
section
/-! SUPPORT. One lemma per operation, for claims over all of them: an encoding with a nonzero reserved header field is
INVALID's (30_encoding.md R100, R108). -/

namespace Sys2Proof.Laws

open Sys2Proof.Machine

/-- The reserved field of a header reads back. -/
@[simp] theorem hdrReserved_mkHdr (w : Bool) (r : BitVec 3) (a : BitVec 12) : hdrReserved (mkHdr w r a) = r := by
  ext i hi
  unfold hdrReserved mkHdr
  simp only [BitVec.getElem_extractLsb', BitVec.getLsbD_append]
  simp [show 12 + i - 12 = i by omega, show ¬ 12 + i < 12 by omega, hi]

/-- Only an INVALID operation is encoded with a nonzero reserved field. -/
def ReservedClear.Statement (i : Instr) : Prop :=
  ∀ h d, encode i = .bus h d → hdrReserved h ≠ 0#3 → ∃ w r a x, i = .invalid w r a x

/-- The form of every bus operation whose header has the reserved field 0. -/
theorem reservedClear_of {i : Instr} {w : Bool} {a : BitVec 12} {x : Word} (e : encode i = .bus (mkHdr w 0#3 a) x) :
    ReservedClear.Statement i := fun h d he hr => by
  rw [e] at he
  cases he
  simp at hr

/-- The form of every port event. -/
theorem reservedClear_port {i : Instr} (e : ∀ h d, encode i ≠ .bus h d) : ReservedClear.Statement i :=
  fun h d he => absurd he (e h d)

theorem ReservedClear.rdId : ReservedClear.Statement (.rdId) :=
  reservedClear_of rfl
theorem ReservedClear.rdConfig : ReservedClear.Statement (.rdConfig) :=
  reservedClear_of rfl
theorem ReservedClear.rdCtrl : ReservedClear.Statement (.rdCtrl) :=
  reservedClear_of rfl
theorem ReservedClear.wrCtrl (d : Word) : ReservedClear.Statement (.wrCtrl d) :=
  reservedClear_of rfl
theorem ReservedClear.rdCmd : ReservedClear.Statement (.rdCmd) :=
  reservedClear_of rfl
theorem ReservedClear.cmdNop : ReservedClear.Statement (.cmdNop) :=
  reservedClear_of rfl
theorem ReservedClear.cmdCommit : ReservedClear.Statement (.cmdCommit) :=
  reservedClear_of rfl
theorem ReservedClear.cmdTick : ReservedClear.Statement (.cmdTick) :=
  reservedClear_of rfl
theorem ReservedClear.cmdClear : ReservedClear.Statement (.cmdClear) :=
  reservedClear_of rfl
theorem ReservedClear.cmdReserved (d : Word) : ReservedClear.Statement (.cmdReserved d) :=
  reservedClear_of rfl
theorem ReservedClear.rdStatus : ReservedClear.Statement (.rdStatus) :=
  reservedClear_of rfl
theorem ReservedClear.wrStatus (d : Word) : ReservedClear.Statement (.wrStatus d) :=
  reservedClear_of rfl
theorem ReservedClear.rdSampleCount : ReservedClear.Statement (.rdSampleCount) :=
  reservedClear_of rfl
theorem ReservedClear.rdTrig : ReservedClear.Statement (.rdTrig) :=
  reservedClear_of rfl
theorem ReservedClear.wrTrig (d : Word) : ReservedClear.Statement (.wrTrig d) :=
  reservedClear_of rfl
theorem ReservedClear.rdOutL : ReservedClear.Statement (.rdOutL) :=
  reservedClear_of rfl
theorem ReservedClear.rdOutR : ReservedClear.Statement (.rdOutR) :=
  reservedClear_of rfl
theorem ReservedClear.rdDlSel : ReservedClear.Statement (.rdDlSel) :=
  reservedClear_of rfl
theorem ReservedClear.wrDlSel (d : Word) : ReservedClear.Statement (.wrDlSel d) :=
  reservedClear_of rfl
theorem ReservedClear.rdDlData : ReservedClear.Statement (.rdDlData) :=
  reservedClear_of rfl
theorem ReservedClear.rdVibDepth : ReservedClear.Statement (.rdVibDepth) :=
  reservedClear_of rfl
theorem ReservedClear.wrVibDepth (d : Word) : ReservedClear.Statement (.wrVibDepth d) :=
  reservedClear_of rfl
theorem ReservedClear.rdTremDepth : ReservedClear.Statement (.rdTremDepth) :=
  reservedClear_of rfl
theorem ReservedClear.wrTremDepth (d : Word) : ReservedClear.Statement (.wrTremDepth d) :=
  reservedClear_of rfl
theorem ReservedClear.rdToneDepth : ReservedClear.Statement (.rdToneDepth) :=
  reservedClear_of rfl
theorem ReservedClear.wrToneDepth (d : Word) : ReservedClear.Statement (.wrToneDepth d) :=
  reservedClear_of rfl
theorem ReservedClear.rdRevFb : ReservedClear.Statement (.rdRevFb) :=
  reservedClear_of rfl
theorem ReservedClear.wrRevFb (d : Word) : ReservedClear.Statement (.wrRevFb d) :=
  reservedClear_of rfl
theorem ReservedClear.rdRevMix : ReservedClear.Statement (.rdRevMix) :=
  reservedClear_of rfl
theorem ReservedClear.wrRevMix (d : Word) : ReservedClear.Statement (.wrRevMix d) :=
  reservedClear_of rfl
theorem ReservedClear.rdDrive : ReservedClear.Statement (.rdDrive) :=
  reservedClear_of rfl
theorem ReservedClear.wrDrive (d : Word) : ReservedClear.Statement (.wrDrive d) :=
  reservedClear_of rfl
theorem ReservedClear.rdMakeup : ReservedClear.Statement (.rdMakeup) :=
  reservedClear_of rfl
theorem ReservedClear.wrMakeup (d : Word) : ReservedClear.Statement (.wrMakeup d) :=
  reservedClear_of rfl
theorem ReservedClear.rdVoiceSum : ReservedClear.Statement (.rdVoiceSum) :=
  reservedClear_of rfl
theorem ReservedClear.rdDcOut : ReservedClear.Statement (.rdDcOut) :=
  reservedClear_of rfl
theorem ReservedClear.rdRevOut : ReservedClear.Statement (.rdRevOut) :=
  reservedClear_of rfl
theorem ReservedClear.rdLfoFreq (i : BitVec 2) : ReservedClear.Statement (.rdLfoFreq i) :=
  reservedClear_of rfl
theorem ReservedClear.wrLfoFreq (i : BitVec 2) (d : Word) : ReservedClear.Statement (.wrLfoFreq i d) :=
  reservedClear_of rfl
theorem ReservedClear.rdLfoPhase (i : BitVec 2) : ReservedClear.Statement (.rdLfoPhase i) :=
  reservedClear_of rfl
theorem ReservedClear.rdLfoOut (i : BitVec 2) : ReservedClear.Statement (.rdLfoOut i) :=
  reservedClear_of rfl
theorem ReservedClear.rdLfoCos (i : BitVec 2) : ReservedClear.Statement (.rdLfoCos i) :=
  reservedClear_of rfl
theorem ReservedClear.rdVFreq (v : BitVec 4) : ReservedClear.Statement (.rdVFreq v) :=
  reservedClear_of rfl
theorem ReservedClear.wrVFreq (v : BitVec 4) (d : Word) : ReservedClear.Statement (.wrVFreq v d) :=
  reservedClear_of rfl
theorem ReservedClear.rdVDamp (v : BitVec 4) : ReservedClear.Statement (.rdVDamp v) :=
  reservedClear_of rfl
theorem ReservedClear.wrVDamp (v : BitVec 4) (d : Word) : ReservedClear.Statement (.wrVDamp v d) :=
  reservedClear_of rfl
theorem ReservedClear.rdVBright (v : BitVec 4) : ReservedClear.Statement (.rdVBright v) :=
  reservedClear_of rfl
theorem ReservedClear.wrVBright (v : BitVec 4) (d : Word) : ReservedClear.Statement (.wrVBright v d) :=
  reservedClear_of rfl
theorem ReservedClear.rdVLen (v : BitVec 4) : ReservedClear.Statement (.rdVLen v) :=
  reservedClear_of rfl
theorem ReservedClear.rdVPos (v : BitVec 4) : ReservedClear.Statement (.rdVPos v) :=
  reservedClear_of rfl
theorem ReservedClear.rdVFilt (v : BitVec 4) : ReservedClear.Statement (.rdVFilt v) :=
  reservedClear_of rfl
theorem ReservedClear.rdVOut (v : BitVec 4) : ReservedClear.Statement (.rdVOut v) :=
  reservedClear_of rfl
theorem ReservedClear.rdVSeed (v : BitVec 4) : ReservedClear.Statement (.rdVSeed v) :=
  reservedClear_of rfl
theorem ReservedClear.wrVSeed (v : BitVec 4) (d : Word) : ReservedClear.Statement (.wrVSeed v d) :=
  reservedClear_of rfl
theorem ReservedClear.roWrite (a : BitVec 12) (d : Word) : ReservedClear.Statement (.roWrite a d) :=
  reservedClear_of rfl
theorem ReservedClear.invalid (w : Bool) (r : BitVec 3) (a : BitVec 12) (d : Word) : ReservedClear.Statement (.invalid w r a d) :=
  fun _ _ _ _ => ⟨w, r, a, d, rfl⟩
theorem ReservedClear.strobe : ReservedClear.Statement (.strobe) :=
  reservedClear_port fun _ _ h => nomatch h
theorem ReservedClear.strobeDrop : ReservedClear.Statement (.strobeDrop) :=
  reservedClear_port fun _ _ h => nomatch h
theorem ReservedClear.reset : ReservedClear.Statement (.reset) :=
  reservedClear_port fun _ _ h => nomatch h

end Sys2Proof.Laws
end

