-- ==== Sys2Proof/Laws/Tick.lean ====
section
/-! SUPPORT. What an enabled tick and a voice step can do, said once: callers cite these and do not unfold the float
operations, whose unfolding is costly for the kernel. -/

namespace Sys2Proof.Machine

/-- Where the operation makes a tick, EN = 1 and the operation goes on, the next state is that of the enabled tick. -/
theorem exec_enabledTick {s t : State} {i : Instr} (h1 : makesTick i s = true) (h2 : ctrlEn s.ctrl = true)
    (h : exec i s = .next t) : t = enabledTick s := by
  cases i <;> simp [makesTick] at h1
  all_goals
    simp [exec, execCmdTick, execStrobe, h1] at h
    rcases tick_cases h with h | h
    · simp [h2] at h
    · exact h.2.2

/-- A strobe that makes an enabled tick with every cell in place. -/
theorem exec_strobe_enabled {s : State} (h1 : ctrlTickSrc s.ctrl = false) (h2 : ctrlEn s.ctrl = true)
    (h3 : s.indexed = true) : exec .strobe s = .next (enabledTick s) := by
  simp [exec, execStrobe, tick, h1, h2, h3]

/-- A tick command that makes an enabled tick with every cell in place. -/
theorem exec_cmdTick_enabled {s : State} (h1 : ctrlTickSrc s.ctrl = true) (h2 : ctrlEn s.ctrl = true)
    (h3 : s.indexed = true) : exec .cmdTick s = .next (enabledTick s) := by
  simp [exec, execCmdTick, tick, h1, h2, h3]

/-- A voice after an enabled tick is its voice step. -/
theorem enabledTick_voice {s : State} {k : Nat} {x : Voice} (h : s.voices[k]? = some x) :
    (enabledTick s).voices[k]? = some (voiceStep s.cfg s.ctrl s.actGlobal (vibLfo s) (toneLfo s) x) := by
  show (List.map _ s.voices)[k]? = _
  rw [List.getElem?_map, h]; rfl

/-- Without a pending trigger a voice is only resized before its loop. -/
theorem Voice.prepare_idle {c : Config} {ctrl : Word} {g : GlobalParams} {l0 : Word} {x : Voice}
    (h : x.trigPending = false) :
    x.prepare c ctrl g l0 = x.resize (delayLength c (voiceFreq c ctrl g l0 x)) := by
  simp [Voice.prepare, Voice.consume, h]

/-- With a pending trigger it is resized, then excited. -/
theorem Voice.prepare_pending {c : Config} {ctrl : Word} {g : GlobalParams} {l0 : Word} {x : Voice}
    (h : x.trigPending = true) :
    x.prepare c ctrl g l0 =
      { (x.resize (delayLength c (voiceFreq c ctrl g l0 x))).excite with trigPending := false } := by
  unfold Voice.prepare Voice.consume
  generalize delayLength c (voiceFreq c ctrl g l0 x) = l
  rw [if_pos (by rw [Voice.resize_trigPending, h])]

/-- Every field of a voice after its step, in terms of the voice before its loop and the sample made. -/
theorem voiceStep_fields {c : Config} {ctrl : Word} {g : GlobalParams} {l0 l2 : Word} {x y p : Voice} {z : Word}
    (hy : y = voiceStep c ctrl g l0 l2 x) (hp : p = x.prepare c ctrl g l0)
    (hz : z = loopSample c ctrl (voiceBright c ctrl g l2 x) (voiceDamp c x) p) :
    y.sh = x.sh ∧ y.act = x.act ∧ y.trigPending = false ∧ y.buf = Memory.write p.buf p.pos z ∧ y.len = p.len ∧
      y.pos = (p.pos + 1) % p.len ∧ y.yp = z ∧ y.vout = z ∧ y.seed = p.seed := by
  have e : y = p.emit z := by rw [hy, hz, hp]; rfl
  have h1 : p.sh = x.sh := by rw [hp]; simp [Voice.prepare]
  have h2 : p.act = x.act := by rw [hp]; simp [Voice.prepare]
  have h3 : p.trigPending = false := by rw [hp]; simp [Voice.prepare]
  clear hy hz hp
  subst e
  exact ⟨h1, h2, h3, rfl, rfl, rfl, rfl, rfl, rfl⟩

end Sys2Proof.Machine
end

