-- ==== Sys2Proof/Machine/Listing.lean ====
section
/-! DEFINITION. Programs as the spec writes them: statements and pseudo-statements as events (30_encoding.md R111 to R113),
and a run with its output stream (41_tick_sequence.md R210). The step does not use this file. -/

namespace Sys2Proof.Machine

/-- The register operand of a statement: a named register, or a raw address, mapped or not (R111). -/
inductive Target where
  | named (r : Reg)
  | raw (a : BitVec 12)
deriving DecidableEq, Repr

/-- The commands of a cmd statement (R111). -/
inductive CmdName where
  | nop | commit | tick | clear
deriving DecidableEq, Repr

/-- A decimal number: its sign, its digits as one number, and the number of them after the point. -/
structure Decimal where
  neg : Bool
  digits : Nat
  places : Nat
deriving DecidableEq, Repr

/-- Statements (R111) and pseudo-statements (R112). -/
inductive Statement where
  | rd (r : Target)
  | wr (r : Target) (d : Word)
  | cmd (c : CmdName)
  | strobe
  | strobeDrop
  | reset
  | trig (vs : List (BitVec 4))
  | commit
  | tick
  | run (n : Nat)
  | clearerr
  | setf (r : Target) (x : Decimal)
  | expect (r : Target) (d : Word)
deriving DecidableEq, Repr

/-- The address an operand stands for. -/
def Target.addr : Target → BitVec 12
  | .named r => r.addr
  | .raw a => a

/-- The DATA of a command (R107). -/
def CmdName.word : CmdName → Word
  | .nop => 0
  | .commit => 1
  | .tick => 2
  | .clear => 3

/-- `bitsOf(f32(x))` of a decimal literal (R111): the quotient to 150 binary places with a last bit that says whether
it is inexact, which rounds as the exact value does. -/
def Decimal.word (x : Decimal) : Word :=
  let n := 2 ^ 150 * x.digits
  let d := 10 ^ x.places
  pack x.neg (roundMag (2 * (n / d) + if n % d = 0 then 0 else 1) 2)

/-- The mask of a trig statement (R112). -/
def trigMask (vs : List (BitVec 4)) : Word := vs.foldl (fun m v => m ||| (1#32 <<< v.toNat)) 0

/-- The transaction of a bus write of d at a (R100). -/
def busWrite (a : BitVec 12) (d : Word) : Event := .bus (mkHdr true 0 a) d

/-- The transaction of a bus read at a (R100). -/
def busRead (a : BitVec 12) : Event := .bus (mkHdr false 0 a) 0

/-- The events of a statement (R111, R112). -/
def Statement.events : Statement → List Event
  | .rd r => [busRead r.addr]
  | .wr r d => [busWrite r.addr d]
  | .cmd c => [busWrite Reg.cmd.addr c.word]
  | .strobe => [.strobe]
  | .strobeDrop => [.strobeDrop]
  | .reset => [.reset]
  | .trig vs => [busWrite Reg.trig.addr (trigMask vs)]
  | .commit => [busWrite Reg.cmd.addr CmdName.commit.word]
  | .tick => [busWrite Reg.cmd.addr CmdName.tick.word]
  | .run n => List.replicate n (busWrite Reg.cmd.addr CmdName.tick.word)
  | .clearerr => [busWrite Reg.status.addr 7]
  | .setf r x => [busWrite r.addr x.word]
  | .expect r _ => [busRead r.addr]

/-- The transaction word that a listing prints for an event; a port event has none (R113). -/
def Event.listed : Event → Option (BitVec 48)
  | .bus h d => some (h ++ d)
  | .strobe => none
  | .strobeDrop => none
  | .reset => none

/-- What the port emits in a state: a sample pair right after a tick (41_tick_sequence.md R207). -/
def State.emission (s : State) : List (Word × Word) := if s.portValid then [(s.portL, s.portR)] else []

/-- A run: the outcome after the last of these events, and the sample pairs emitted (41_tick_sequence.md R210). -/
def runEvents : List Event → State → Result × List (Word × Word)
  | [], s => (.next s, [])
  | e :: es, s =>
    match step (s.present e) with
    | .next t => ((runEvents es t).1, t.emission ++ (runEvents es t).2)
    | .fault f => (.fault f, [])
    | .refused r => (.refused r, [])

end Sys2Proof.Machine
end

