-- ==== Sys2Proof/Tests/Slice0.lean ====
section
/-! SUPPORT. Tests: terms that the well-formedness checks refuse, transaction words written out from 30_encoding.md, one-step
results from the tables of 95_test_vectors.md, and a state and operands that meet the hypotheses of each statement. -/

namespace Sys2Proof.Tests

open Sys2Proof Sys2Proof.Machine

/-! ### Small states and observers -/

/-- What f sees after one step that takes the event e. -/
def after {α : Type} (s : State) (e : Event) (f : State → α) : Option α :=
  match step (s.present e) with
  | .next t => some (f t)
  | .fault _ => none
  | .refused _ => none

/-- The response to a read with this header. -/
def answer (s : State) (h : BitVec 16) : Option Word := (after s (.bus h 0#32) State.rdata).bind id

/-- The machine after reset with voice k changed by f. -/
def withVoice (k : Nat) (f : Voice → Voice) (s : State) : State := { s with voices := s.voices.modify k f }

/-- Voice 0 as in program P1 before its first tick: 12000 Hz, DAMP 0.5, BRIGHT 1.0, one trigger pending. -/
def pluckedVoice (x : Voice) : Voice :=
  { x with sh := ⟨0x463B8000#32, half32, one32⟩, act := ⟨0x463B8000#32, half32, one32⟩, trigPending := true }

/-- The state of program P1 before its first tick, with this CTRL. -/
def plucked (ctrl : Word) : State := { withVoice 0 pluckedVoice State.reset with ctrl := ctrl }

/-- A state with EN = 1 and REV_EN = 1 after reset, and one strobe to come. -/
def strobed : State := { plucked 0x1C1#32 with events := [.strobe] }

/-- The state after the enabled tick of this state. -/
def ticked (s : State) : State := enabledTick { s with events := [] }

/-! ### Well-formedness refuses -/

theorem test_wf_lfo_index : Instr.wf 8 (.rdLfoFreq 3#2) = false ∧ Instr.wf 8 (.rdLfoFreq 2#2) = true := by decide
theorem test_wf_voice_index : Instr.wf 8 (.wrVFreq 8#4 0#32) = false ∧ Instr.wf 8 (.wrVFreq 7#4 0#32) = true := by decide
theorem test_wf_reserved_cmd : Instr.wf 8 (.cmdReserved 3#32) = false ∧ Instr.wf 8 (.cmdReserved 4#32) = true := by decide
theorem test_wf_read_only : Instr.wf 8 (.roWrite 0x008#12 0#32) = false ∧ Instr.wf 8 (.roWrite 0x004#12 0#32) = true := by
  decide
theorem test_wf_invalid :
    Instr.wf 8 (.invalid false 0#3 0x008#12 0#32) = false ∧ Instr.wf 8 (.invalid false 1#3 0x008#12 0#32) = true := by
  decide

/-! ### Words written out from 30_encoding.md R100 to R107 -/

theorem test_decode_identification :
    decode 8 (.bus 0x0000#16 0#32) = .rdId ∧ decode 8 (.bus 0x0004#16 0#32) = .rdConfig ∧
    decode 8 (.bus 0x0008#16 0#32) = .rdCtrl ∧ decode 8 (.bus 0x8008#16 5#32) = .wrCtrl 5#32 := by decide
theorem test_decode_commands :
    decode 8 (.bus 0x000C#16 0#32) = .rdCmd ∧ decode 8 (.bus 0x800C#16 0#32) = .cmdNop ∧
    decode 8 (.bus 0x800C#16 1#32) = .cmdCommit ∧ decode 8 (.bus 0x800C#16 2#32) = .cmdTick ∧
    decode 8 (.bus 0x800C#16 3#32) = .cmdClear ∧
    decode 8 (.bus 0x800C#16 0x80000002#32) = .cmdReserved 0x80000002#32 := by decide
theorem test_decode_status :
    decode 8 (.bus 0x0010#16 0#32) = .rdStatus ∧ decode 8 (.bus 0x8010#16 5#32) = .wrStatus 5#32 ∧
    decode 8 (.bus 0x0014#16 0#32) = .rdSampleCount ∧ decode 8 (.bus 0x0018#16 0#32) = .rdTrig ∧
    decode 8 (.bus 0x8018#16 5#32) = .wrTrig 5#32 ∧ decode 8 (.bus 0x001C#16 0#32) = .rdOutL ∧
    decode 8 (.bus 0x0020#16 0#32) = .rdOutR := by decide
theorem test_decode_delay_window :
    decode 8 (.bus 0x0024#16 0#32) = .rdDlSel ∧ decode 8 (.bus 0x8024#16 5#32) = .wrDlSel 5#32 ∧
    decode 8 (.bus 0x0028#16 0#32) = .rdDlData := by decide
theorem test_decode_global_reads :
    decode 8 (.bus 0x0040#16 0#32) = .rdVibDepth ∧ decode 8 (.bus 0x0044#16 0#32) = .rdTremDepth ∧
    decode 8 (.bus 0x0048#16 0#32) = .rdToneDepth ∧ decode 8 (.bus 0x004C#16 0#32) = .rdRevFb ∧
    decode 8 (.bus 0x0050#16 0#32) = .rdRevMix ∧ decode 8 (.bus 0x0054#16 0#32) = .rdDrive ∧
    decode 8 (.bus 0x0058#16 0#32) = .rdMakeup := by decide
theorem test_decode_global_writes :
    decode 8 (.bus 0x8040#16 5#32) = .wrVibDepth 5#32 ∧ decode 8 (.bus 0x8044#16 5#32) = .wrTremDepth 5#32 ∧
    decode 8 (.bus 0x8048#16 5#32) = .wrToneDepth 5#32 ∧ decode 8 (.bus 0x804C#16 5#32) = .wrRevFb 5#32 ∧
    decode 8 (.bus 0x8050#16 5#32) = .wrRevMix 5#32 ∧ decode 8 (.bus 0x8054#16 5#32) = .wrDrive 5#32 ∧
    decode 8 (.bus 0x8058#16 5#32) = .wrMakeup 5#32 := by decide
theorem test_decode_taps :
    decode 8 (.bus 0x0060#16 0#32) = .rdVoiceSum ∧ decode 8 (.bus 0x0064#16 0#32) = .rdDcOut ∧
    decode 8 (.bus 0x0068#16 0#32) = .rdRevOut := by decide
theorem test_decode_lfo :
    decode 8 (.bus 0x0120#16 0#32) = .rdLfoFreq 2#2 ∧ decode 8 (.bus 0x8100#16 5#32) = .wrLfoFreq 0#2 5#32 ∧
    decode 8 (.bus 0x0114#16 0#32) = .rdLfoPhase 1#2 ∧ decode 8 (.bus 0x0128#16 0#32) = .rdLfoOut 2#2 ∧
    decode 8 (.bus 0x010C#16 0#32) = .rdLfoCos 0#2 := by decide
theorem test_decode_voice_parameters :
    decode 8 (.bus 0x02E0#16 0#32) = .rdVFreq 7#4 ∧ decode 8 (.bus 0x8220#16 5#32) = .wrVFreq 1#4 5#32 ∧
    decode 8 (.bus 0x0244#16 0#32) = .rdVDamp 2#4 ∧ decode 8 (.bus 0x8204#16 5#32) = .wrVDamp 0#4 5#32 ∧
    decode 8 (.bus 0x0268#16 0#32) = .rdVBright 3#4 ∧ decode 8 (.bus 0x8288#16 5#32) = .wrVBright 4#4 5#32 := by decide
theorem test_decode_voice_state :
    decode 8 (.bus 0x02AC#16 0#32) = .rdVLen 5#4 ∧ decode 8 (.bus 0x02D0#16 0#32) = .rdVPos 6#4 ∧
    decode 8 (.bus 0x0214#16 0#32) = .rdVFilt 0#4 ∧ decode 8 (.bus 0x0218#16 0#32) = .rdVOut 0#4 ∧
    decode 8 (.bus 0x023C#16 0#32) = .rdVSeed 1#4 ∧ decode 8 (.bus 0x827C#16 5#32) = .wrVSeed 3#4 5#32 := by decide
theorem test_decode_errors :
    decode 8 (.bus 0x8014#16 5#32) = .roWrite 0x014#12 5#32 ∧
    decode 8 (.bus 0xF00C#16 1#32) = .invalid true 7#3 0x00C#12 1#32 ∧
    decode 8 (.bus 0x000A#16 0#32) = .invalid false 0#3 0x00A#12 0#32 ∧
    decode 8 (.bus 0x03FC#16 0#32) = .invalid false 0#3 0x3FC#12 0#32 := by decide
theorem test_decode_port_events :
    decode 8 .strobe = .strobe ∧ decode 8 .strobeDrop = .strobeDrop ∧ decode 8 .reset = .reset := by decide
theorem test_decode_table_word :
    decodeTableWord 48 0x8200435C0000 = some (.wrVFreq 0#4 0x435C0000#32) ∧ decodeTableWord 56 0 = none := by decide
theorem test_byte_lanes : laneByte 0x4B534D01#32 0 = 0x01#8 ∧ laneByte 0x4B534D01#32 3 = 0x4B#8 := by decide
theorem test_listing :
    (Statement.setf (.named (.voice .freq 0#4)) ⟨false, 2200, 1⟩).events = [.bus 0x8200#16 0x435C0000#32] ∧
    (Statement.trig [0#4, 3#4]).events = [.bus 0x8018#16 9#32] ∧
    (Statement.rd (.named .ctrl)).events.map Event.listed = [some 0x000800000000#48] ∧
    (Statement.rd (.raw 0x0FC#12)).events = [.bus 0x00FC#16 0#32] ∧
    Decimal.word ⟨false, 99, 2⟩ = 0x3F7D70A4#32 ∧ Decimal.word ⟨true, 30, 1⟩ = 0xC0400000#32 := by decide +kernel
theorem test_fetch_word :
    (State.reset.withFetchWord 48 0x800C00000001).fetch = some (.cmdCommit, State.reset) := by decide +kernel

/-! ### Reads: the readbacks after reset, section 2.7 -/

theorem test_read_identification :
    answer State.reset 0x0000#16 = some 0x4B534D01#32 ∧ answer State.reset 0x0004#16 = some 0x09605488#32 ∧
    answer State.reset 0x0008#16 = some 0x00000180#32 ∧ answer State.reset 0x000C#16 = some 0#32 := by decide +kernel
theorem test_read_status :
    answer { State.reset with status := 7#32 } 0x0010#16 = some 7#32 ∧
    answer { State.reset with sampleCount := 9#32 } 0x0014#16 = some 9#32 ∧
    answer { State.reset with outL := one32 } 0x001C#16 = some one32 ∧
    answer { State.reset with outR := one32 } 0x0020#16 = some one32 ∧
    answer { State.reset with dlSel := 0x70001#32 } 0x0024#16 = some 0x70001#32 := by decide +kernel
theorem test_read_trig : answer (plucked 0x180#32) 0x0018#16 = some 1#32 := by decide +kernel
theorem test_read_delay_data :
    answer (withVoice 3 (fun x => { x with buf := [(5, one32)] }) { State.reset with dlSel := 0x30005#32 }) 0x0028#16 =
      some one32 ∧
    answer { State.reset with dlSel := 0x00000960#32 } 0x0028#16 = some 0#32 ∧
    answer { State.reset with dlSel := 0x00080000#32 } 0x0028#16 = some 0#32 := by decide +kernel
theorem test_read_globals :
    answer State.reset 0x0040#16 = some 0#32 ∧ answer State.reset 0x0044#16 = some 0#32 ∧
    answer State.reset 0x0048#16 = some 0#32 ∧ answer State.reset 0x004C#16 = some 0x3F000000#32 ∧
    answer State.reset 0x0050#16 = some 0#32 ∧ answer State.reset 0x0054#16 = some 0x3F800000#32 ∧
    answer State.reset 0x0058#16 = some 0x3F800000#32 := by decide +kernel
theorem test_read_taps :
    answer { State.reset with tapSum := half32 } 0x0060#16 = some half32 ∧
    answer { State.reset with tapDc := half32 } 0x0064#16 = some half32 ∧
    answer { State.reset with tapRev := half32 } 0x0068#16 = some half32 := by decide +kernel
theorem test_read_lfo :
    answer State.reset 0x0120#16 = some 0#32 ∧ answer State.reset 0x0114#16 = some 0#32 ∧
    answer State.reset 0x0108#16 = some 0#32 ∧ answer State.reset 0x0118#16 = some 0xBF800000#32 ∧
    answer State.reset 0x0128#16 = some 0xBF800000#32 ∧ answer State.reset 0x010C#16 = some 0x3F800000#32 := by
  decide +kernel
theorem test_read_voice :
    answer State.reset 0x02E0#16 = some 0x435C0000#32 ∧ answer State.reset 0x0224#16 = some 0x3F7AE148#32 ∧
    answer State.reset 0x0248#16 = some 0x3F000000#32 ∧ answer State.reset 0x020C#16 = some 0xDA#32 ∧
    answer State.reset 0x0210#16 = some 0#32 ∧ answer State.reset 0x0214#16 = some 0#32 ∧
    answer State.reset 0x0218#16 = some 0#32 ∧ answer State.reset 0x02FC#16 = some 0x78CA48A0#32 := by decide +kernel

/-! ### Writes, sections 2.1 and 2.2 -/

theorem test_write_ctrl :
    after State.reset (.bus 0x8008#16 0xFFFFFF7C#32) State.ctrl = some 0x1FC#32 ∧
    after { State.reset with ctrl := 0x1FF#32 } (.bus 0x8008#16 0#32) State.ctrl = some 0x180#32 := by decide +kernel
theorem test_write_status :
    after { State.reset with status := 7#32 } (.bus 0x8010#16 5#32) State.status = some 2#32 := by decide +kernel
theorem test_write_trig :
    after State.reset (.bus 0x8018#16 0xFFFFFFFF#32) (fun t => trigWord t.voices) = some 0xFF#32 ∧
    after (plucked 0x180#32) (.bus 0x8018#16 4#32) (fun t => trigWord t.voices) = some 5#32 := by decide +kernel
theorem test_write_dl_sel :
    after State.reset (.bus 0x8024#16 0xFFFFFFFF#32) State.dlSel = some 0x000FFFFF#32 := by decide +kernel
theorem test_write_globals_raw :
    after State.reset (.bus 0x8040#16 0x80000000#32) (fun t => t.shGlobal.vibDepth) = some 0x80000000#32 ∧
    after State.reset (.bus 0x8044#16 5#32) (fun t => t.shGlobal.tremDepth) = some 5#32 ∧
    after State.reset (.bus 0x8048#16 5#32) (fun t => t.shGlobal.toneDepth) = some 5#32 ∧
    after State.reset (.bus 0x804C#16 5#32) (fun t => t.shGlobal.revFb) = some 5#32 ∧
    after State.reset (.bus 0x8050#16 5#32) (fun t => t.shGlobal.revMix) = some 5#32 ∧
    after State.reset (.bus 0x8054#16 5#32) (fun t => t.shGlobal.drive) = some 5#32 ∧
    after State.reset (.bus 0x8058#16 5#32) (fun t => t.shGlobal.makeup) = some 5#32 := by decide +kernel
theorem test_write_lfo_freq :
    after State.reset (.bus 0x8110#16 5#32) (fun t => (t.lfos.l1.shFreq, t.lfos.l1.actFreq)) = some (5#32, 0#32) := by
  decide +kernel
theorem test_write_voice_raw :
    after State.reset (.bus 0x8220#16 0x463B8000#32) (fun t => t.voices[1]?.map fun x => (x.sh.freq, x.act.freq)) =
      some (some (0x463B8000#32, 0x435C0000#32)) ∧
    after State.reset (.bus 0x8204#16 0x7FC00001#32) (fun t => t.voices[0]?.map fun x => x.sh.damp) =
      some (some 0x7FC00001#32) ∧
    after State.reset (.bus 0x8208#16 5#32) (fun t => t.voices[0]?.map fun x => x.sh.bright) = some (some 5#32) := by
  decide +kernel
theorem test_write_seed :
    after State.reset (.bus 0x821C#16 0#32) (fun t => t.voices[0]?.map Voice.seed) = some (some 1#32) ∧
    after State.reset (.bus 0x827C#16 0xDEADBEEF#32) (fun t => t.voices[3]?.map Voice.seed) =
      some (some 0xDEADBEEF#32) := by decide +kernel
theorem test_read_only_write :
    after State.reset (.bus 0x8000#16 5#32) (fun t => (t.status, t.rdata)) = some (1#32, none) := by decide +kernel
theorem test_invalid_access :
    after State.reset (.bus 0x1008#16 0#32) (fun t => (t.status, t.rdata)) = some (1#32, some 0#32) ∧
    after State.reset (.bus 0x8300#16 5#32) (fun t => (t.status, t.rdata)) = some (1#32, none) := by decide +kernel

/-! ### Commands -/

theorem test_cmd_nop : after State.reset (.bus 0x800C#16 0#32) id = some State.reset := by decide +kernel
theorem test_cmd_reserved :
    after State.reset (.bus 0x800C#16 0x12#32) (fun t => (t.status, t.sampleCount)) = some (2#32, 0#32) := by decide +kernel
theorem test_cmd_commit :
    after { State.reset with shGlobal := { GlobalParams.reset with drive := half32 } } (.bus 0x800C#16 1#32)
      (fun t => t.actGlobal.drive) = some half32 ∧
    after (withVoice 2 (fun x => { x with sh := { x.sh with damp := one32 } }) State.reset) (.bus 0x800C#16 1#32)
      (fun t => t.voices.map fun x => x.act == x.sh) = some (List.replicate 8 true) := by decide +kernel
theorem test_cmd_clear :
    after (ticked (plucked 0x181#32)) (.bus 0x800C#16 3#32) (fun t => t.voices[0]?.map fun x => (x.buf, x.pos, x.len, x.seed)) =
      some (some ([], 0, 4, 0x00174626#32)) ∧
    after { ticked (plucked 0x181#32) with portL := one32 } (.bus 0x800C#16 3#32) (fun t => (t.sampleCount, t.outL, t.portL)) =
      some (1#32, 0#32, one32) := by decide +kernel
theorem test_cmd_tick_needs_its_source :
    after State.reset (.bus 0x800C#16 2#32) (fun t => (t.status, t.portValid)) = some (2#32, false) ∧
    after { State.reset with ctrl := 0x182#32 } (.bus 0x800C#16 2#32) (fun t => (t.sampleCount, t.portValid)) =
      some (0#32, true) := by decide +kernel

/-! ### Ticks: section 2.3, and the first tick of program P1 -/

theorem test_tick_p1_voice :
    after (plucked 0x183#32) (.bus 0x800C#16 2#32) (fun t => t.voices[0]?.map fun x => (x.buf, x.pos, x.vout, x.seed)) =
      some (some ([(0, 0xBDF6DA50#32), (1, 0xBF68CB18#32), (2, 0x3F49C366#32), (3, 0x3A3A3000#32)], 1, 0xBDF6DA50#32,
        0x00174626#32)) := by decide +kernel
theorem test_tick_p1_outputs :
    after (plucked 0x181#32) .strobe (fun t => (t.tapSum, t.tapDc, t.tapRev, t.outL, t.portR, t.sampleCount)) =
      some (0xBC76DA50#32, 0xBC76DA50#32, 0xBC76DA50#32, 0xBC76D588#32, 0xBC76D588#32, 1#32) := by decide +kernel
theorem test_tick_reverb :
    after { plucked 0x1C3#32 with actGlobal := { GlobalParams.reset with revMix := one32 } } (.bus 0x800C#16 2#32)
      (fun t => (t.tapDc, t.tapRev, t.outL)) = some (0xBC76DA50#32, 0#32, 0#32) := by decide +kernel
theorem test_tick_advances_phase :
    after { State.reset with ctrl := 0x181#32, lfos := { LfoBank.reset with l0 := ⟨0#32, 0x463B8000#32, 0#32⟩ } } .strobe
      (fun t => t.lfos.l0.phase) = some 0x40000000#32 := by decide +kernel
theorem test_strobe_silent_and_ignored :
    after State.reset .strobe (fun t => (t.sampleCount, t.portL, t.portValid)) = some (0#32, 0#32, true) ∧
    after { State.reset with ctrl := 0x183#32 } .strobe (fun t => (t.status, t.sampleCount, t.portValid)) =
      some (0#32, 0#32, false) := by decide +kernel
theorem test_strobe_drop :
    after { State.reset with ctrl := 0x181#32 } .strobeDrop (fun t => (t.status, t.portValid)) = some (4#32, false) ∧
    after { State.reset with ctrl := 0x183#32 } .strobeDrop State.status = some 0#32 := by decide +kernel
theorem test_counter_wraps :
    after { State.reset with ctrl := 0x181#32, sampleCount := 0xFFFFFFFF#32 } .strobe State.sampleCount = some 0#32 := by
  decide +kernel
theorem test_reset_from_a_tick : after (ticked (plucked 0x181#32)) .reset id = some State.reset := by decide +kernel

/-! ### Numbers: sections 2.4 to 2.6 -/

theorem test_increments :
    [0x80000000#32, 0x7FC00000#32, 0x40600000#32, 0x463B8000#32, 0x7F800000#32].map (lfoIncrement specInstance) =
      [0#32, 0#32, 0x0004C757#32, 0x40000000#32, 0x80000000#32] := by decide +kernel
theorem test_waveforms :
    (sinOut specInstance 0x12345678#32, cosOut specInstance 0x12345678#32, tri 0x12345678#32, saw 0x12345678#32) =
      (0x3EDAE880#32, 0x3F676BD8#32, 0xBF372EA8#32, 0xBF5B9754#32) := by decide +kernel
/-- The floor of pi * 2^192. -/
def piFixed : Nat := 0x3243f6a8885a308d313198a2e03707344a4093822299f31d0

/-- Fixed point with 192 fraction bits: terms j, j + 1, ... of the sine series of x, n of them, t being term j, added and
subtracted in turn from the sum s. -/
def sineTerms (x : Nat) : Nat → Nat → Nat → Int → Int
  | 0, _, _, s => s
  | n + 1, j, t, s =>
    sineTerms x n (j + 1) (t * x / 2 ^ 192 * x / 2 ^ 192 / ((2 * j + 2) * (2 * j + 3)))
      (if j % 2 = 0 then s + t else s - t)

/-- The sine table is f32(sin(2 pi k / 1024)), R224: each entry of the first quarter, computed again from the series. -/
theorem test_sine_table :
    sinQuarter = (List.range 256).map fun k =>
      BitVec.ofNat 32 (roundMag (sineTerms (piFixed * k / 512) 30 0 (piFixed * k / 512) 0).toNat 43) := by decide +kernel
theorem test_delay_lengths :
    [0x435C0000#32, 0x4382D0A4#32, 0x46960000#32, 0x7F800000#32, 0x7FC00000#32].map
      (fun f => delayLength specInstance (clampFreq specInstance f)) = [218, 183, 3, 2, 2400] := by decide +kernel
theorem test_loop_filter :
    loopFilter 0x3F333333#32 0x3F666666#32 0xBF000000#32 0x3E800000#32 = 0xBE7D70A2#32 ∧
    loopFilter half32 half32 0#32 0x80000000#32 = 0#32 ∧
    loopFilter half32 half32 0x80000000#32 0x80000000#32 = 0x80000000#32 := by decide +kernel
theorem test_signed_arithmetic :
    add32 one32 0xBF800000#32 = 0#32 ∧ add32 0x80000000#32 0x80000000#32 = 0x80000000#32 ∧
    sub32 0x80000000#32 0#32 = 0x80000000#32 ∧ mul32 0xBF800000#32 0#32 = 0x80000000#32 ∧
    mul32 0x7F7FFFFF#32 0xC0000000#32 = 0xFF800000#32 ∧ add32 0x7F7FFFFF#32 0x73000000#32 = 0x7F800000#32 := by
  decide +kernel
theorem test_nonlinearity :
    nonlinear specInstance half32 = 0x3EFD9354#32 ∧ tanh32 specInstance 0x3A83126F#32 = 0x3A83126C#32 ∧
    nonlinear specInstance 0x80000000#32 = 0#32 := by decide +kernel
theorem test_dc_blocker : dcBlock specInstance half32 0#32 0xBC734F7F#32 = 0x3EF86F40#32 := by decide +kernel
/-- On a constant input the state 100 * 2^-149 stays, and 101 * 2^-149 does not (log entry 25). -/
theorem test_dc_blocker_subnormal :
    dcBlock specInstance half32 half32 100#32 = 100#32 ∧ dcBlock specInstance half32 half32 101#32 = 100#32 := by
  decide +kernel
theorem test_tremolo_gain :
    tremGain { GlobalParams.reset with tremDepth := 0x3E800000#32 } 0xBF000000#32 = 0x3F500000#32 ∧
    tremGain { GlobalParams.reset with tremDepth := 0x7FC00000#32 } 0xBF800000#32 = one32 := by decide +kernel
theorem test_saturation :
    saturate specInstance { GlobalParams.reset with drive := 0x40000000#32, makeup := half32 } half32 = 0x3EC2F7D6#32 ∧
    saturate specInstance GlobalParams.reset 0x43C80000#32 = one32 := by decide +kernel

/-! ### Hypotheses of the statements are met -/

/-- The transactions of the encoding statements, at the boundaries of their ranges. -/
theorem test_hyp_encoding :
    (Instr.wf 8 (.wrVSeed 7#4 5#32) = true ∧ Instr.wf 8 (.cmdReserved 4#32) = true ∧
      Instr.wf 8 (.invalid true 0#3 0x300#12 5#32) = true) ∧
    regAt 8 0x00C#12 = some .cmd ∧ regAt 8 0x02C#12 = none ∧ regAt 8 0x03C#12 = none ∧ regAt 8 0x05C#12 = none ∧
    regAt 8 0x06C#12 = none ∧ regAt 8 0x0FC#12 = none ∧ regAt 8 0x130#12 = none ∧ regAt 8 0x1FC#12 = none ∧
    regAt 8 0x300#12 = none ∧ regAt 8 0x3FC#12 = none ∧ regAt 8 0x400#12 = none ∧ regAt 8 0xFFC#12 = none := by decide

/-- The states of the step statement: with an event, and without. -/
theorem test_hyp_step : strobed.events = .strobe :: [] ∧ State.reset.events = [] := by decide +kernel

/-- A register block of each kind exists, and the selections of DL_DATA fall on both sides of each limit. -/
theorem test_hyp_blocks :
    (∃ x, State.reset.lfos.get 2#2 = some x) ∧ (∃ x, State.reset.voices[(7#4 : BitVec 4).toNat]? = some x) ∧
    (0x7095F#32 : Word).toNat % 2 ^ 16 < dlCap State.reset.cfg ∧ ¬ (0x70960#32 : Word).toNat % 2 ^ 16 < dlCap State.reset.cfg ∧
    State.reset.voices.length ≤ (0x80000#32 : Word).toNat / 2 ^ 16 % 16 :=
  ⟨⟨_, rfl⟩, ⟨_, rfl⟩, by decide +kernel, by decide +kernel, by decide +kernel⟩

/-- The reserved CMD words of the statement, at the least of each kind. -/
theorem test_hyp_reserved_command :
    (4#4 ≤ (4#32 : Word).extractLsb' 0 4) ∧ (0x10#32 : Word).extractLsb' 4 28 ≠ 0#28 ∧ ¬ 4#4 ≤ (3#32 : Word).extractLsb' 0 4 := by
  decide

/-- CTRL in each of the cases of the tick statements. -/
theorem test_hyp_tick_sources :
    ctrlTickSrc State.reset.ctrl = false ∧ ctrlEn State.reset.ctrl = false ∧ ctrlTickSrc 0x182#32 = true ∧
    ctrlEn 0x182#32 = false ∧ ctrlTickSrc 0x183#32 = true ∧ ctrlEn 0x183#32 = true := by decide +kernel

/-- An enabled tick with reverb from a state that meets the invariant, with a trigger pending on voice 0 alone. -/
theorem test_hyp_enabled_tick :
    (strobed.Inv ∧ strobed.indexed = true ∧ makesTick .strobe strobed = true ∧ ctrlEn strobed.ctrl = true ∧
      strobed.ctrl.getLsbD 6 = true ∧ strobed.voices.map Voice.trigPending = true :: List.replicate 7 false ∧
      strobed.combs.length = 4 ∧ strobed.allpasses.length = 2) ∧
    exec .strobe strobed = .next (enabledTick strobed) :=
  ⟨by decide +kernel, exec_strobe_enabled (by decide +kernel) (by decide +kernel) (by decide +kernel)⟩

/-- The same by CMD TICK, with REV_EN = 0. -/
theorem test_hyp_command_tick :
    (makesTick .cmdTick (plucked 0x183#32) = true ∧ ctrlEn (plucked 0x183#32).ctrl = true ∧
      (plucked 0x183#32).ctrl.getLsbD 6 = false ∧ (plucked 0x183#32).indexed = true) ∧
    exec .cmdTick (plucked 0x183#32) = .next (enabledTick (plucked 0x183#32)) :=
  ⟨by decide +kernel, exec_cmdTick_enabled (by decide +kernel) (by decide +kernel) (by decide +kernel)⟩

/-- A state that differs from `strobed` in voice 1 alone. -/
def strobedOther : State := withVoice 1 (fun x => { x with yp := one32 }) strobed

/-- Two states that differ in voice 1 alone, both with an enabled tick. -/
theorem test_hyp_two_states :
    (strobedOther.voices[1]? ≠ strobed.voices[1]? ∧ strobedOther.cfg = strobed.cfg ∧ strobedOther.ctrl = strobed.ctrl ∧
      strobedOther.actGlobal = strobed.actGlobal ∧ strobedOther.lfos = strobed.lfos ∧
      strobedOther.voices[0]? = strobed.voices[0]?) ∧
    exec .strobe strobedOther = .next (enabledTick strobedOther) :=
  ⟨by decide +kernel, exec_strobe_enabled (by decide +kernel) (by decide +kernel) (by decide +kernel)⟩

/-- A state outside the invariant, whose voice 0 has its position at its length. -/
theorem test_hyp_cell_absent :
    let s := withVoice 0 (fun x => { x with pos := x.len }) strobed
    s.indexed = false ∧ makesTick .strobe s = true ∧ ctrlEn s.ctrl = true := by decide +kernel

/-- The configuration and the frequencies of the rate statements, at the ends of their ranges. -/
theorem test_hyp_rates :
    configOk specInstance = true ∧ le32 specInstance.fMin specInstance.fMin = true ∧
    le32 specInstance.fMin (nyq specInstance) = true ∧ le32 (nyq specInstance) (nyq specInstance) = true ∧
    isNaN 0x7FC00000#32 = true ∧ toFix 0x80000000#32 ≤ 0 ∧ (isNaN one32 = false ∧ 0 < toFix one32 ∧
      toFix one32 < toFix (nyq specInstance)) := by decide +kernel

/-- Operands in each clause of the clamp statement. -/
theorem test_hyp_clamp :
    le32 zero32 one32 = true ∧ isNaN 0x7FC00000#32 = true ∧ le32 0x80000000#32 zero32 = true ∧
    (le32 one32 one32 = true ∧ le32 one32 zero32 = false) ∧
    (isNaN half32 = false ∧ le32 half32 zero32 = false ∧ le32 one32 half32 = false) := by decide +kernel

/-- Operands of the arithmetic statement: a tie between two magnitudes, an overflow, sums and differences that are zero
and that are not, infinities of either sign, a NaN, and an infinity beside a zero. -/
theorem test_hyp_rounding :
    (roundMag 3 1 < infBits ∧ 1 < infBits ∧ roundMag 3 1 ≠ 1) ∧
    (2 ^ 25 - 1) * 2 ^ (252 + 0) ≤ 2 ^ 277 ∧
    (isFinite one32 = true ∧ isFinite 0xBF800000#32 = true ∧ toFix one32 + toFix 0xBF800000#32 = 0 ∧
      toFix one32 - toFix 0xBF800000#32 ≠ 0 ∧ toFix one32 + toFix one32 ≠ 0) ∧
    (isInf 0x7F800000#32 = true ∧ isInf 0xFF800000#32 = true ∧ isNaN 0x7F800000#32 = false ∧
      0xFF800000#32 = (0x7F800000#32 : Word) ^^^ 0x80000000#32) ∧
    isNaN 0x7FC00000#32 = true ∧ toFix 0x80000000#32 = 0 := by decide +kernel

/-- Operands of the statements on 1 - b, Tanh32 and the loop, at the ends of their ranges. -/
theorem test_hyp_numbers :
    le32 half32 half32 = true ∧ le32 half32 one32 = true ∧ le32 one32 one32 = true ∧
    le32 half32 0x3F7D70A4#32 = true ∧ le32 0x3F7D70A4#32 0x3F7D70A4#32 = true ∧ isFinite 0xFF7FFFFF#32 = true ∧
    isFinite 0x80000000#32 = true ∧ le32 0xFF7FFFFF#32 0x80000000#32 = true ∧
    ({ specInstance with tanh := .free } : Config).tanh = .free := by decide +kernel

/-- Operations of the statements about every operation. -/
theorem test_hyp_operations :
    isRead (.rdVSeed 7#4) = true ∧ Instr.wf State.reset.voices.length (.rdVSeed 7#4) = true ∧
    makesTick .strobe State.reset = true ∧ makesTick .cmdNop State.reset = false ∧
    after State.reset .strobe State.portValid = some true ∧
    after State.reset (.bus 0x800C#16 0#32) State.portValid = some false := by decide +kernel

/-- The states in which each STATUS bit goes from 0 to 1. -/
theorem test_hyp_status :
    State.reset.status.getLsbD 0 = false ∧ after State.reset (.bus 0x8000#16 0#32) (fun t => t.status.getLsbD 0) = some true ∧
    after State.reset (.bus 0x800C#16 2#32) (fun t => t.status.getLsbD 1) = some true ∧
    after State.reset .strobeDrop (fun t => t.status.getLsbD 2) = some true := by decide +kernel

/-- A configuration that meets R8 and is not the instance: sixteen voices, and the free Tanh32. -/
theorem test_hyp_other_configuration :
    let c : Config := { specInstance with
      voices := (List.range 16).map voiceConfigInstance, headroom := 0x3D800000#32, tanh := .free }
    configOk c = true ∧ instanceButOpen c ∧ c ≠ specInstance := by decide +kernel

/-- A state that meets every invariant and bound, and its step. -/
theorem test_hyp_invariants :
    (strobed.Inv ∧ strobed.VoicesBounded ∧ strobed.PostBounded ∧ strobed.OutBounded ∧ instanceButOpen strobed.cfg) ∧
    step strobed = .next (ticked strobed) :=
  ⟨⟨by decide +kernel, by decide +kernel, by decide +kernel, by decide +kernel, by decide +kernel⟩, exec_strobe_enabled (s := { strobed with events := [] }) (by decide +kernel) (by decide +kernel)
    (by decide +kernel)⟩

end Sys2Proof.Tests
end

section
/-! PROOFS. The value of a magnitude, as a function of the encoding without its sign (00_scope.md R13). -/

namespace Sys2Proof.Machine

/-- The value of magnitude bits in units of 2^-149: `fixMag` as a function of `magBits` alone. -/
def magVal (m : Nat) : Nat := if m / 2 ^ 23 = 0 then m else 2 ^ (m / 2 ^ 23 - 1) * (2 ^ 23 + m % 2 ^ 23)

theorem fixMag_eq_magVal (w : Word) : fixMag w = magVal (magBits w) := rfl

/-- An integer significand q and an exponent j give the value 2^j * q, also where q = 2^24 carries into the exponent. -/
theorem magVal_significand {q j : Nat} (hq : q ≤ 2 ^ 24) (hj : j = 0 ∨ 2 ^ 23 ≤ q) :
    magVal (q + 2 ^ 23 * j) = 2 ^ j * q := by
  unfold magVal
  rcases Nat.lt_or_ge q (2 ^ 23) with hlow | hnormal
  · obtain rfl : j = 0 := by omega
    rw [if_pos (by omega)]; simp
  · rw [if_neg (by omega)]
    rcases Nat.lt_or_ge q (2 ^ 24) with hlt | hcarry
    · rw [show (q + 2 ^ 23 * j) / 2 ^ 23 - 1 = j by omega, show 2 ^ 23 + (q + 2 ^ 23 * j) % 2 ^ 23 = q by omega]
    · obtain rfl : q = 2 ^ 24 := by omega
      rw [show (2 ^ 24 + 2 ^ 23 * j) / 2 ^ 23 - 1 = j + 1 by omega,
        show 2 ^ 23 + (2 ^ 24 + 2 ^ 23 * j) % 2 ^ 23 = 2 ^ 23 by omega, pow_succ]
      ring

/-- Every encoding has such a significand, below 2^24. -/
theorem exists_significand (m : Nat) : ∃ q j, m = q + 2 ^ 23 * j ∧ q < 2 ^ 24 ∧ (j = 0 ∨ 2 ^ 23 ≤ q) := by
  rcases Nat.lt_or_ge m (2 ^ 23) with h | h
  · exact ⟨m, 0, by omega, by omega, .inl rfl⟩
  · exact ⟨2 ^ 23 + m % 2 ^ 23, m / 2 ^ 23 - 1, by omega, by omega, .inr (by omega)⟩

/-- Encodings are ordered as their values. -/
theorem magVal_strictMono : StrictMono magVal := by
  refine strictMono_nat_of_lt_succ fun m => ?_
  obtain ⟨q, j, rfl, hq, hj⟩ := exists_significand m
  rw [show q + 2 ^ 23 * j + 1 = (q + 1) + 2 ^ 23 * j by omega, magVal_significand (by omega) hj,
    magVal_significand (by omega) (by omega)]
  exact Nat.mul_lt_mul_of_pos_left (by omega) (by positivity)

@[simp] theorem magVal_zero : magVal 0 = 0 := rfl

@[simp] theorem magVal_eq_zero {m : Nat} : magVal m = 0 ↔ m = 0 :=
  magVal_strictMono.injective.eq_iff' magVal_zero

/-- One more in the exponent field doubles a normal value. -/
theorem magVal_add_exponent {m : Nat} (h : 2 ^ 23 ≤ m) : magVal (m + 2 ^ 23) = 2 * magVal m := by
  obtain ⟨q, j, rfl, hq, hj⟩ := exists_significand m
  rw [show q + 2 ^ 23 * j + 2 ^ 23 = q + 2 ^ 23 * (j + 1) by omega, magVal_significand (by omega) (by omega),
    magVal_significand (by omega) hj, pow_succ]
  ring

theorem magVal_one32 : magVal 0x3F800000 = 2 ^ 149 := by
  rw [show 0x3F800000 = 2 ^ 23 + 2 ^ 23 * 126 by norm_num, magVal_significand (by norm_num) (by norm_num)]
  norm_num

/-- The value that an infinity's encoding would have. -/
theorem magVal_infBits : magVal infBits = 2 ^ 253 * 2 ^ 24 :=
  magVal_significand (q := 2 ^ 24) (j := 253) le_rfl (.inr (by norm_num))

/-- The largest finite magnitude. -/
theorem magVal_maxFinite : magVal (infBits - 1) = 2 ^ 253 * (2 ^ 24 - 1) :=
  magVal_significand (q := 2 ^ 24 - 1) (j := 253) (by norm_num) (.inr (by norm_num))

/-! ### The fields of a word -/

theorem magBits_ofNat {m : Nat} (h : m < 2 ^ 31) : magBits (BitVec.ofNat 32 m) = m := by
  unfold magBits; rw [BitVec.toNat_ofNat]; omega

theorem fixMag_ofNat {m : Nat} (h : m < 2 ^ 31) : fixMag (BitVec.ofNat 32 m) = magVal m := by
  rw [fixMag_eq_magVal, magBits_ofNat h]

theorem fixMag_pack (b : Bool) {m : Nat} (h : m < 2 ^ 31) : fixMag (pack b m) = magVal m := by
  rw [fixMag_eq_magVal, magBits_pack b h]

theorem magBits_eq_extract (w : Word) : magBits w = (w.extractLsb' 0 31).toNat := by
  simp [magBits, BitVec.extractLsb'_toNat]

/-- The magnitude bits are the exponent field and the fraction field. -/
theorem magBits_eq_fields (w : Word) :
    magBits w = (w.extractLsb' 0 23).toNat + 2 ^ 23 * (w.extractLsb' 23 8).toNat := by
  simp only [magBits, BitVec.extractLsb'_toNat, Nat.shiftRight_eq_div_pow]
  omega

theorem magVal_fields {e f : Nat} (hf : f < 2 ^ 23) :
    magVal (f + 2 ^ 23 * e) = if e = 0 then f else (2 ^ 23 + f) * 2 ^ (e - 1) := by
  split_ifs with he
  · subst he
    rw [magVal_significand (by omega) (.inl rfl)]; simp
  · rw [show f + 2 ^ 23 * e = (2 ^ 23 + f) + 2 ^ 23 * (e - 1) by omega, magVal_significand (by omega) (by omega), mul_comm]

theorem fixMag_eq_zero_iff (w : Word) : fixMag w = 0 ↔ magBits w = 0 := by rw [fixMag_eq_magVal, magVal_eq_zero]

theorem toFix_eq_zero_iff (w : Word) : toFix w = 0 ↔ magBits w = 0 := by
  rw [← fixMag_eq_zero_iff]; unfold toFix; split <;> omega

@[simp] theorem fixMag_neg32 (w : Word) : fixMag (neg32 w) = fixMag w := by simp [fixMag_eq_magVal]

@[simp] theorem toFix_neg32 (w : Word) : toFix (neg32 w) = -toFix w := by
  cases h : signBit w <;> simp [toFix, h]

theorem toFix_le_fixMag (w : Word) : toFix w ≤ fixMag w := by unfold toFix; split <;> omega

/-- A value that is not negative is its own magnitude. -/
theorem toFix_eq_fixMag {w : Word} (h : 0 ≤ toFix w) : toFix w = fixMag w := by
  unfold toFix at *; split_ifs at * <;> omega

end Sys2Proof.Machine
end

section
/-! PROOFS. Rounding to nearest, ties to even (00_scope.md R13). -/

namespace Sys2Proof.Machine

/-- `roundShift` gives an integer within one half of n / 2^k, and an even one at one half. -/
theorem roundShift_nearest (n k : Nat) :
    (2 * n ≤ 2 ^ k * (2 * roundShift n k + 1) ∧ 2 ^ k * (2 * roundShift n k) ≤ 2 * n + 2 ^ k) ∧
      (2 * n = 2 ^ k * (2 * roundShift n k + 1) → roundShift n k % 2 = 0) ∧
      (2 ^ k * (2 * roundShift n k) = 2 * n + 2 ^ k → roundShift n k % 2 = 0) := by
  have hsplit := Nat.div_add_mod n (2 ^ k)
  have hrem := Nat.mod_lt n (Nat.two_pow_pos k)
  have double : ∀ q, 2 ^ k * (2 * q) = 2 * (2 ^ k * q) := fun q => Nat.mul_left_comm _ _ _
  simp only [roundShift, mul_add, mul_one, double]
  split_ifs with hup
  · simp only [mul_add, mul_one]; omega
  · omega

/-- `roundShift` keeps a lower bound that is an integer, and an upper one. -/
theorem roundShift_bounds (n k : Nat) : n / 2 ^ k ≤ roundShift n k ∧ roundShift n k ≤ n / 2 ^ k + 1 := by
  simp only [roundShift]; split_ifs <;> omega

/-! ### The rounding before it is cut at infinity -/

/-- The number of bits that rounding drops. -/
def dropBits (n s : Nat) : Nat := max s (Nat.log2 n - 23)

/-- `roundMag` as if the exponent had no end. -/
def roundUnbounded (n s : Nat) : Nat := roundShift n (dropBits n s) + 2 ^ 23 * (dropBits n s - s)

theorem roundMag_eq_min (n s : Nat) : roundMag n s = min (roundUnbounded n s) infBits := rfl

theorem roundMag_le (n s : Nat) : roundMag n s ≤ infBits := min_le_right _ _

theorem roundMag_lt (n s : Nat) : roundMag n s < 2 ^ 31 := (roundMag_le n s).trans_lt (by decide)

theorem roundMag_eq_of_lt {n s : Nat} (h : roundMag n s < infBits) : roundMag n s = roundUnbounded n s := by
  rw [roundMag_eq_min] at *; omega

theorem le_dropBits (n s : Nat) : s ≤ dropBits n s := le_max_left _ _

/-- At least 24 bits are kept where more are dropped than n has below its unit. -/
theorem two_pow_le_of_dropBits {n s : Nat} (h : s < dropBits n s) : 2 ^ dropBits n s * 2 ^ 23 ≤ n := by
  have hk : dropBits n s + 23 = Nat.log2 n := by unfold dropBits at *; omega
  rw [← pow_add, hk]
  refine Nat.log2_self_le ?_
  rintro rfl
  simp [dropBits] at h

theorem lt_two_pow_dropBits (n s : Nat) : n < 2 ^ dropBits n s * 2 ^ 24 := by
  rw [← pow_add]
  exact Nat.lt_log2_self.trans_le (Nat.pow_le_pow_right (by omega) (by unfold dropBits; omega))

/-- The rounded significand: at most 2^24, and at least 2^23 where the exponent is not the least. -/
theorem roundShift_dropBits (n s : Nat) :
    roundShift n (dropBits n s) ≤ 2 ^ 24 ∧ (dropBits n s - s = 0 ∨ 2 ^ 23 ≤ roundShift n (dropBits n s)) := by
  obtain ⟨hlo, hhi⟩ := roundShift_bounds n (dropBits n s)
  have hlt : n / 2 ^ dropBits n s < 2 ^ 24 := Nat.div_lt_of_lt_mul (lt_two_pow_dropBits n s)
  refine ⟨by omega, ?_⟩
  rcases (le_dropBits n s).eq_or_lt with heq | hlt
  · exact .inl (by omega)
  · exact .inr (((Nat.le_div_iff_mul_le (by positivity)).2 ((mul_comm _ _).trans_le (two_pow_le_of_dropBits hlt))).trans hlo)

/-! ### Nearest, ties to even -/

/-- The magnitude bits m are a nearest value to n * 2^-(149 + s): n lies between the midpoints of m and its neighbours, and on
a midpoint m is even. -/
structure NearestEven (n s m : Nat) : Prop where
  le_upper : 2 * n ≤ 2 ^ s * (magVal m + magVal (m + 1))
  even_upper : 2 * n = 2 ^ s * (magVal m + magVal (m + 1)) → m % 2 = 0
  lower_le : ∀ p, m = p + 1 → 2 ^ s * (magVal p + magVal m) ≤ 2 * n
  even_lower : ∀ p, m = p + 1 → 2 ^ s * (magVal p + magVal m) = 2 * n → m % 2 = 0

/-- The value of a significand q in units of 2^k, where the unit of the encoding is 2^s. -/
theorem scaled_magVal {s k q : Nat} (hk : s ≤ k) (hq : q ≤ 2 ^ 24) (hj : k - s = 0 ∨ 2 ^ 23 ≤ q) :
    2 ^ s * magVal (q + 2 ^ 23 * (k - s)) = 2 ^ k * q := by
  rw [magVal_significand hq hj, ← mul_assoc, ← pow_add, Nat.add_sub_cancel' hk]

/-- The next encoding is one unit up, or two after a carry. -/
theorem scaled_magVal_succ {s k q : Nat} (hk : s ≤ k) (hq : q ≤ 2 ^ 24) (hj : k - s = 0 ∨ 2 ^ 23 ≤ q) :
    2 ^ s * magVal (q + 2 ^ 23 * (k - s) + 1) = 2 ^ k * q + 2 ^ k ∨
      (q = 2 ^ 24 ∧ 2 ^ s * magVal (q + 2 ^ 23 * (k - s) + 1) = 2 ^ k * q + 2 * 2 ^ k) := by
  rcases hq.lt_or_eq with hlt | rfl
  · left
    rw [add_right_comm, scaled_magVal hk (q := q + 1) (by omega) (by omega), mul_add, mul_one]
  · right
    rw [show 2 ^ 24 + 2 ^ 23 * (k - s) + 1 = (2 ^ 23 + 1) + 2 ^ 23 * (k + 1 - s) by omega,
      scaled_magVal (by omega) (by norm_num) (.inr (by norm_num)), pow_succ]
    exact ⟨rfl, by ring⟩

/-- The encoding before is one unit down, or less where q is the least normal significand. -/
theorem scaled_magVal_pred {s k q p : Nat} (hk : s ≤ k) (hq : q ≤ 2 ^ 24) (hj : k - s = 0 ∨ 2 ^ 23 ≤ q)
    (hp : q + 2 ^ 23 * (k - s) = p + 1) :
    2 ^ s * magVal p + 2 ^ k = 2 ^ k * q ∨ (s < k ∧ q = 2 ^ 23 ∧ 2 ^ s * magVal p < 2 ^ k * q) := by
  by_cases hleast : s < k ∧ q = 2 ^ 23
  · refine .inr ⟨hleast.1, hleast.2, ?_⟩
    rw [← scaled_magVal hk hq hj, hp]
    exact Nat.mul_lt_mul_of_pos_left (magVal_strictMono p.lt_succ_self) (by positivity)
  · left
    obtain ⟨r, rfl⟩ : ∃ r, q = r + 1 := ⟨q - 1, by omega⟩
    obtain rfl : p = r + 2 ^ 23 * (k - s) := by omega
    rw [scaled_magVal hk (by omega) (by omega), mul_add, mul_one]

/-- `roundUnbounded` rounds to nearest, ties to even. -/
theorem roundUnbounded_nearestEven (n s : Nat) : NearestEven n s (roundUnbounded n s) := by
  obtain ⟨hq, hj⟩ := roundShift_dropBits n s
  obtain ⟨⟨hup, hlow⟩, heven, heven'⟩ := roundShift_nearest n (dropBits n s)
  have hk := le_dropBits n s
  have hleast : s < dropBits n s → 2 ^ dropBits n s * 2 ^ 23 ≤ n := two_pow_le_of_dropBits
  unfold roundUnbounded
  generalize roundShift n (dropBits n s) = q at *
  generalize dropBits n s = k at *
  have hval := scaled_magVal hk hq hj
  have hsucc := scaled_magVal_succ hk hq hj
  have hpred := fun p => scaled_magVal_pred (p := p) hk hq hj
  rw [mul_add, mul_one, Nat.mul_left_comm] at hup heven
  rw [Nat.mul_left_comm] at hlow heven'
  constructor <;> simp only [mul_add, hval]
  case le_upper => omega
  case even_upper => omega
  all_goals
    intro p hp
    rcases hpred p hp with h | ⟨hlt, rfl, h⟩
    · omega
    · have := hleast hlt; omega

/-! ### What follows of a nearest value -/

/-- No value is nearer than a nearest one, and where another is as near the nearest one is even. -/
theorem NearestEven.dist_le {n s m : Nat} (h : NearestEven n s m) (p : Nat) :
    |(2 ^ s * magVal m : Nat) - (n : Int)| ≤ |(2 ^ s * magVal p : Nat) - (n : Int)| ∧
      (|(2 ^ s * magVal m : Nat) - (n : Int)| = |(2 ^ s * magVal p : Nat) - (n : Int)| → p = m ∨ m % 2 = 0) := by
  obtain ⟨hup, heven, hlow, heven'⟩ := h
  have scaled_le : ∀ {a b}, a ≤ b → 2 ^ s * magVal a ≤ 2 ^ s * magVal b := fun hab =>
    Nat.mul_le_mul_left _ (magVal_strictMono.monotone hab)
  have scaled_lt : ∀ a, 2 ^ s * magVal a < 2 ^ s * magVal (a + 1) := fun a =>
    Nat.mul_lt_mul_of_pos_left (magVal_strictMono a.lt_succ_self) (by positivity)
  simp only [mul_add] at hup heven hlow heven'
  simp only [Int.abs_eq_natAbs]
  rcases lt_trichotomy p m with hlt | rfl | hgt
  · obtain ⟨r, rfl⟩ : ∃ r, m = r + 1 := ⟨m - 1, by omega⟩
    have h1 := scaled_le (Nat.le_of_lt_succ hlt)
    have h2 := scaled_lt r
    have h3 := hlow r rfl
    have h4 := heven' r rfl
    omega
  · exact ⟨le_rfl, fun _ => .inl rfl⟩
  · have h1 : 2 ^ s * magVal (m + 1) ≤ 2 ^ s * magVal p := scaled_le hgt
    have h2 := scaled_lt m
    omega

/-- A nearest value reaches m + 1 exactly from the midpoint of m and m + 1 on, where m is odd. -/
theorem NearestEven.lt_iff {n s m r : Nat} (h : NearestEven n s r) (hodd : m % 2 = 1) :
    m < r ↔ 2 ^ s * (magVal m + magVal (m + 1)) ≤ 2 * n := by
  obtain ⟨hup, heven, hlow, -⟩ := h
  have midpoint_mono : StrictMono fun a => 2 ^ s * (magVal a + magVal (a + 1)) := fun a b hab =>
    Nat.mul_lt_mul_of_pos_left
      (Nat.add_lt_add (magVal_strictMono hab) (magVal_strictMono (Nat.succ_lt_succ hab))) (by positivity)
  constructor
  · intro hlt
    obtain ⟨q, rfl⟩ : ∃ q, r = q + 1 := ⟨r - 1, by omega⟩
    exact (midpoint_mono.monotone (Nat.le_of_lt_succ hlt)).trans (hlow q rfl)
  · intro hmid
    by_contra hge
    rcases (Nat.le_of_not_lt hge).lt_or_eq with hlt | rfl
    · exact absurd (hmid.trans hup) (midpoint_mono hlt).not_ge
    · have := heven (le_antisymm hup hmid)
      omega

/-- A value that is representable is its own nearest one. -/
theorem NearestEven.eq_of_exact {s m r : Nat} (h : NearestEven (2 ^ s * magVal m) s r) : r = m := by
  obtain ⟨hdist, -⟩ := h.dist_le m
  rw [sub_self, abs_zero] at hdist
  have hscaled : 2 ^ s * magVal r = 2 ^ s * magVal m := by simp only [Int.abs_eq_natAbs] at hdist; omega
  exact magVal_strictMono.injective (Nat.eq_of_mul_eq_mul_left (by positivity) hscaled)

/-! ### `roundMag` -/

/-- A magnitude that is representable and finite rounds to itself. -/
theorem roundMag_exact {m : Nat} (s : Nat) (h : m ≤ infBits) : roundMag (2 ^ s * magVal m) s = m := by
  rw [roundMag_eq_min, (roundUnbounded_nearestEven _ s).eq_of_exact, min_eq_left h]

/-- Rounding overflows exactly from the midpoint of the largest finite magnitude and 2^128 on. -/
theorem roundMag_eq_infBits_iff (n s : Nat) : roundMag n s = infBits ↔ (2 ^ 25 - 1) * 2 ^ (252 + s) ≤ n := by
  have hmid : 2 ^ s * (magVal (infBits - 1) + magVal (infBits - 1 + 1)) = 2 * ((2 ^ 25 - 1) * 2 ^ (252 + s)) := by
    rw [magVal_maxFinite, show infBits - 1 + 1 = infBits from rfl, magVal_infBits, ← mul_add, pow_add 2 252 s,
      show 2 ^ 253 = 2 * 2 ^ 252 from pow_succ' 2 252]
    ring
  have hiff := (roundUnbounded_nearestEven n s).lt_iff (m := infBits - 1) rfl
  rw [hmid, Nat.mul_le_mul_left_iff two_pos] at hiff
  rw [← hiff, roundMag_eq_min, min_eq_right_iff]
  unfold infBits; omega

/-- Where it is finite, `roundMag` gives a nearest value. -/
theorem roundMag_nearestEven {n s : Nat} (h : roundMag n s < infBits) : NearestEven n s (roundMag n s) :=
  roundMag_eq_of_lt h ▸ roundUnbounded_nearestEven n s

end Sys2Proof.Machine
end

section
/-! PROOFS. What `add32`, `sub32` and `mul32` give, by the class of their operands (00_scope.md R13). -/

namespace Sys2Proof.Machine

/-! ### Classes of words -/

theorem isNaN_eq_false_of_isFinite {w : Word} (h : isFinite w = true) : isNaN w = false := by
  simp only [isFinite, isNaN, decide_eq_true_eq, decide_eq_false_iff_not] at *; omega

theorem isInf_eq_false_of_isFinite {w : Word} (h : isFinite w = true) : isInf w = false := by
  simp only [isFinite, isInf, decide_eq_true_eq, beq_eq_false_iff_ne] at *; omega

theorem isNaN_eq_false_of_isInf {w : Word} (h : isInf w = true) : isNaN w = false := by
  simp_all [isInf, isNaN]

/-- The result of an invalid operation is a NaN. -/
theorem isNaN_nanResult (a b : Word) : isNaN (nanResult a b) = true := by
  simp only [isNaN, magBits, nanResult, infBits, BitVec.toNat_ofNat, decide_eq_true_eq]
  split <;> omega

theorem isFinite_pack (b : Bool) {m : Nat} (h : m < infBits) : isFinite (pack b m) = true := by
  simpa [isFinite, magBits_pack b (h.trans (by decide))] using h

/-! ### Rounded words -/

/-- The word w is the rounded exact value z * 2^-149, with -0.0 for an exact zero where `negZero` says so. -/
def RoundsTo (w : Word) (z : Int) (negZero : Bool) : Prop :=
  (z = 0 → w = if negZero then 0x80000000#32 else 0#32) ∧
    (z ≠ 0 → w.msb = decide (z < 0) ∧ (w.extractLsb' 0 31).toNat = roundMag z.natAbs 0)

theorem msb_pack (b : Bool) {m : Nat} (h : m < 2 ^ 31) : (pack b m).msb = b := signBit_pack b h

theorem extract_pack (b : Bool) {m : Nat} (h : m < 2 ^ 31) : ((pack b m).extractLsb' 0 31).toNat = m := by
  rw [← magBits_eq_extract, magBits_pack b h]

theorem pack_zero (b : Bool) : pack b 0 = if b then 0x80000000#32 else 0#32 := by cases b <;> rfl

theorem msb_neg32 (w : Word) : (neg32 w).msb = !w.msb := signBit_neg32 w

/-- A sum of finite values is the rounded exact one. -/
theorem add32_roundsTo {a b : Word} (ha : isFinite a = true) (hb : isFinite b = true) :
    RoundsTo (add32 a b) (toFix a + toFix b) (a.msb && b.msb) := by
  have hadd : add32 a b = if toFix a + toFix b = 0 then pack (a.msb && b.msb) 0 else ofFix (toFix a + toFix b) := by
    simp [add32, isNaN_eq_false_of_isFinite, isInf_eq_false_of_isFinite, ha, hb, signBit]
  rw [hadd]
  refine ⟨fun hz => by rw [if_pos hz, pack_zero], fun hz => ?_⟩
  rw [if_neg hz, ofFix]
  exact ⟨msb_pack _ (roundMag_lt _ _), extract_pack _ (roundMag_lt _ _)⟩

/-- A difference of finite values is the rounded exact one. -/
theorem sub32_roundsTo {a b : Word} (ha : isFinite a = true) (hb : isFinite b = true) :
    RoundsTo (sub32 a b) (toFix a - toFix b) (a.msb && !b.msb) := by
  have h := add32_roundsTo ha ((isFinite_neg32 b).trans hb)
  rwa [toFix_neg32, msb_neg32, ← sub_eq_add_neg] at h

/-- A product of finite values is the rounded exact one. -/
theorem mul32_finite {a b : Word} (ha : isFinite a = true) (hb : isFinite b = true) :
    mul32 a b = pack (a.msb != b.msb) (roundMag (fixMag a * fixMag b) 149) := by
  simp [mul32, isNaN_eq_false_of_isFinite, isInf_eq_false_of_isFinite, ha, hb, signBit]

/-! ### NaNs and infinities -/

theorem isNaN_add32 {a b : Word} (h : isNaN a = true ∨ isNaN b = true) : isNaN (add32 a b) = true := by
  rw [add32, if_pos (by simpa using h)]; exact isNaN_nanResult a b

theorem isNaN_mul32 {a b : Word} (h : isNaN a = true ∨ isNaN b = true) : isNaN (mul32 a b) = true := by
  rw [mul32, if_pos (by simpa using h)]; exact isNaN_nanResult a b

/-- An infinity plus a finite value or itself is that infinity. -/
theorem add32_inf_left {a b : Word} (ha : isInf a = true) (hb : isFinite b = true ∨ b = a) : add32 a b = a := by
  have hna := isNaN_eq_false_of_isInf ha
  rcases hb with hb | rfl
  · simp [add32, ha, hna, isNaN_eq_false_of_isFinite hb, isInf_eq_false_of_isFinite hb]
  · simp [add32, ha, hna]

theorem add32_inf_right {a b : Word} (ha : isFinite a = true) (hb : isInf b = true) : add32 a b = b := by
  simp [add32, hb, isNaN_eq_false_of_isInf hb, isNaN_eq_false_of_isFinite ha, isInf_eq_false_of_isFinite ha]

/-- Opposite infinities have no sum. -/
theorem isNaN_add32_neg32 {a : Word} (ha : isInf a = true) : isNaN (add32 a (neg32 a)) = true := by
  simp [add32, ha, isNaN_eq_false_of_isInf ha, isNaN_nanResult]

/-- A product with an infinity: a NaN with a zero, else the infinity with the sign of the product. -/
theorem mul32_inf {a b : Word} (ha : isNaN a = false) (hb : isNaN b = false) (h : isInf a = true ∨ isInf b = true) :
    mul32 a b = if toFix a = 0 ∨ toFix b = 0 then nanResult a b else pack (a.msb != b.msb) infBits := by
  simp [mul32, ha, hb, h, toFix_eq_zero_iff, signBit]

theorem pack_infBits (b : Bool) : pack b infBits = if b then 0xFF800000#32 else 0x7F800000#32 := by cases b <;> rfl

/-! ### The statement -/

/-- Sign, exponent and fraction fields say what class a word is of and what value it has. -/
theorem encoding_fields (w : Word) :
    let e := (w.extractLsb' 23 8).toNat
    let f := (w.extractLsb' 0 23).toNat
    (isFinite w = decide (e < 255)) ∧ (isInf w = decide (e = 255 ∧ f = 0)) ∧ (isNaN w = decide (e = 255 ∧ f ≠ 0)) ∧
    fixMag w = (if e = 0 then f else (2 ^ 23 + f) * 2 ^ (e - 1)) ∧
    toFix w = (if w.msb then -(fixMag w : Int) else fixMag w) := by
  have hf := (w.extractLsb' 0 23).isLt
  have he := (w.extractLsb' 23 8).isLt
  simp only [isFinite, isInf, isNaN, fixMag_eq_magVal, magBits_eq_fields w, infBits]
  refine ⟨?_, ?_, ?_, magVal_fields hf, ?_⟩
  · exact decide_eq_decide.2 (by omega)
  · exact (Bool.beq_eq_decide_eq _ _).trans (decide_eq_decide.2 (by omega))
  · exact decide_eq_decide.2 (by omega)
  · rw [← magBits_eq_fields]; rfl

/-- Settles O45: the fields, the rounding and the cases of the three operations, each by its lemma above. -/
theorem roundingIsNearestEven : Obligations.RoundingIsNearestEven := by
  refine ⟨encoding_fields, ?nearest, ?overflow, ?finite, ?special⟩
  case nearest =>
    intro n s m hr hm v
    have value : ∀ k < infBits, v k = (2 ^ s * magVal k : Nat) := fun k hk => by
      simp [v, fixMag_ofNat (hk.trans (by decide)), mul_comm]
    rw [value _ hr, value m hm]
    exact (roundMag_nearestEven hr).dist_le m
  case overflow => exact fun n s => ⟨roundMag_le n s, roundMag_eq_infBits_iff n s⟩
  case finite =>
    intro a b ha hb
    refine ⟨add32_roundsTo ha hb, sub32_roundsTo ha hb, ?_⟩
    rw [mul32_finite ha hb]
    exact ⟨msb_pack _ (roundMag_lt _ _), extract_pack _ (roundMag_lt _ _)⟩
  case special =>
    intro a b
    refine ⟨by rw [sub32, neg32_eq_xor], fun h => ⟨isNaN_add32 h, isNaN_mul32 h⟩, add32_inf_left, add32_inf_right, ?_, ?_⟩
    · rintro ha rfl
      rw [← neg32_eq_xor]
      exact isNaN_add32_neg32 ha
    · intro ha hb h
      rw [mul32_inf ha hb h]
      refine ⟨fun hz => by rw [if_pos hz]; exact isNaN_nanResult a b, fun hza hzb => ?_⟩
      rw [if_neg (not_or.2 ⟨hza, hzb⟩), pack_infBits]

end Sys2Proof.Machine
end

section
/-! PROOFS. The clamps of 00_scope.md R14, the rates and the delay length (43_voice_engine.md R243, 42_lfo_bank.md R221). -/

namespace Sys2Proof.Machine

/-! ### Comparison and clamps -/

theorem le32_iff {a b : Word} : le32 a b = true ↔ isNaN a = false ∧ isNaN b = false ∧ toFix a ≤ toFix b := by
  simp [le32, and_assoc]

theorem le32_eq_false_iff {a b : Word} (ha : isNaN a = false) (hb : isNaN b = false) :
    le32 a b = false ↔ toFix b < toFix a := by
  simp [le32, ha, hb]

theorem clampf_nan {x lo hi : Word} (h : isNaN x = true) : clampf x lo hi = lo := if_pos (by simp [h])

theorem clampf_low {x lo hi : Word} (h : toFix x ≤ toFix lo) : clampf x lo hi = lo := if_pos (by simp [h])

theorem clampf_high {x lo hi : Word} (hx : isNaN x = false) (hlo : toFix lo < toFix x) (hhi : toFix hi ≤ toFix x) :
    clampf x lo hi = hi := by
  rw [clampf, if_neg (by simp [hx, hlo]), if_pos hhi]

theorem clampf_mid {x lo hi : Word} (hx : isNaN x = false) (hlo : toFix lo < toFix x) (hhi : toFix x < toFix hi) :
    clampf x lo hi = x := by
  rw [clampf, if_neg (by simp [hx, hlo]), if_neg (not_le.2 hhi)]

/-- The four cases of a clamp. -/
theorem clampf_cases (x lo hi : Word) :
    ((isNaN x = true ∨ toFix x ≤ toFix lo) ∧ clampf x lo hi = lo) ∨
      (isNaN x = false ∧ toFix lo < toFix x ∧ toFix hi ≤ toFix x ∧ clampf x lo hi = hi) ∨
      (isNaN x = false ∧ toFix lo < toFix x ∧ toFix x < toFix hi ∧ clampf x lo hi = x) := by
  cases hx : isNaN x with
  | true => exact .inl ⟨.inl rfl, clampf_nan hx⟩
  | false =>
    rcases le_or_gt (toFix x) (toFix lo) with hlo | hlo
    · exact .inl ⟨.inr hlo, clampf_low hlo⟩
    · rcases le_or_gt (toFix hi) (toFix x) with hhi | hhi
      · exact .inr (.inl ⟨rfl, hlo, hhi, clampf_high hx hlo hhi⟩)
      · exact .inr (.inr ⟨rfl, hlo, hhi, clampf_mid hx hlo hhi⟩)

/-- A clamp lies between its bounds, whatever its operand. -/
theorem clampf_between {lo hi : Word} (h : le32 lo hi = true) (x : Word) :
    le32 lo (clampf x lo hi) = true ∧ le32 (clampf x lo hi) hi = true := by
  obtain ⟨hlo, hhi, hle⟩ := le32_iff.1 h
  rcases clampf_cases x lo hi with ⟨-, e⟩ | ⟨-, -, -, e⟩ | ⟨hx, h1, h2, e⟩ <;> rw [e]
  · exact ⟨le32_iff.2 ⟨hlo, hlo, le_rfl⟩, h⟩
  · exact ⟨h, le32_iff.2 ⟨hhi, hhi, le_rfl⟩⟩
  · exact ⟨le32_iff.2 ⟨hlo, hx, h1.le⟩, le32_iff.2 ⟨hx, hhi, h2.le⟩⟩

/-- Settles O44, case by case of the two clamps. -/
theorem clampStaysBetween : Obligations.ClampStaysBetween := by
  refine ⟨fun n lo hi _ => ?integers, fun x lo hi h => ?words⟩
  case integers =>
    refine ⟨fun h => if_pos h, fun h1 h2 => ?_, fun h1 h2 => ?_⟩
    · rw [clampi, if_neg (by omega), if_pos h1]
    · rw [clampi, if_neg (by omega), if_neg (by omega)]
  case words =>
    obtain ⟨hlo, hhi, -⟩ := le32_iff.1 h
    refine ⟨clampf_nan, fun hx => ?_, fun hx hx' => ?_, fun hx hx1 hx2 => ?_, clampf_between h x⟩
    · obtain ⟨-, -, hle⟩ := le32_iff.1 hx
      exact clampf_low hle
    · obtain ⟨-, hxn, hle⟩ := le32_iff.1 hx
      exact clampf_high hxn ((le32_eq_false_iff hxn hlo).1 hx') hle
    · exact clampf_mid hx ((le32_eq_false_iff hx hlo).1 hx1) ((le32_eq_false_iff hhi hx).1 hx2)

/-! ### What `configOk` says of the rates -/

theorem ofFix_natCast (n : Nat) : ofFix n = pack false (roundMag n 0) := by
  rw [ofFix, Int.natAbs_natCast, decide_eq_false (by omega)]

theorem toFix_pack (b : Bool) {m : Nat} (h : m < 2 ^ 31) :
    toFix (pack b m) = if b then -(magVal m : Int) else magVal m := by
  rw [toFix, signBit_pack b h, fixMag_pack b h]

/-- FS is at least 2 and a finite binary32 value. -/
theorem configOk_fs {c : Config} (h : configOk c = true) :
    2 ≤ c.fs ∧ roundMag (2 ^ 149 * c.fs) 0 < infBits ∧ magVal (roundMag (2 ^ 149 * c.fs) 0) = 2 ^ 149 * c.fs := by
  simp only [configOk, ratesOk, Bool.and_eq_true, decide_eq_true_eq, beq_iff_eq, ofFix_natCast, isFinite,
    magBits_pack false (roundMag_lt _ _), fixMag_pack false (roundMag_lt _ _)] at h
  obtain ⟨⟨⟨-, ⟨⟨⟨⟨⟨⟨hfs, hfinite⟩, hexact⟩, -⟩, -⟩, -⟩, -⟩⟩, -⟩, -⟩ := h
  exact ⟨hfs, hfinite, hexact⟩

/-- F_MIN is a positive number, at most FS / 2. -/
theorem configOk_fMin {c : Config} (h : configOk c = true) :
    isNaN c.fMin = false ∧ 0 < toFix c.fMin ∧ toFix c.fMin ≤ (2 ^ 148 * c.fs : Nat) := by
  simp only [configOk, ratesOk, Bool.and_eq_true, decide_eq_true_eq, Bool.not_eq_true'] at h
  obtain ⟨⟨⟨-, ⟨⟨⟨⟨-, hnum⟩, hpos⟩, hle⟩, -⟩⟩, -⟩, -⟩ := h
  exact ⟨hnum, hpos, hle⟩

/-- Half of a normal binary32 value is one, so NYQ is exact. -/
theorem nyq_exact {c : Config} (h : configOk c = true) :
    isFinite (nyq c) = true ∧ fixMag (nyq c) = 2 ^ 148 * c.fs ∧ toFix (nyq c) = (2 ^ 148 * c.fs : Nat) := by
  obtain ⟨hfs, hfinite, hexact⟩ := configOk_fs h
  generalize roundMag (2 ^ 149 * c.fs) 0 = m at hfinite hexact
  have hnormal : 2 ^ 24 ≤ m := by
    by_contra hlt
    have hsmall : magVal m ≤ 2 ^ 24 := by
      have hunit := magVal_significand (q := 2 ^ 24) (j := 0) le_rfl (.inl rfl)
      rw [mul_zero, add_zero, pow_zero, one_mul] at hunit
      exact hunit ▸ magVal_strictMono.monotone (by omega)
    omega
  obtain ⟨k, rfl⟩ : ∃ k, m = k + 2 ^ 23 := ⟨m - 2 ^ 23, by omega⟩
  have hhalf : magVal k = 2 ^ 148 * c.fs := by
    rw [magVal_add_exponent (by omega)] at hexact; omega
  have hk : k < infBits := by omega
  have hround : roundMag (2 ^ 148 * c.fs) 0 = k := by
    have := roundMag_exact 0 hk.le
    rwa [pow_zero, one_mul, hhalf] at this
  have hk' : k < 2 ^ 31 := hk.trans (by decide)
  rw [nyq, ofFix_natCast, hround, fixMag_pack _ hk', toFix_pack _ hk', hhalf]
  exact ⟨isFinite_pack _ hk, rfl, rfl⟩

theorem le32_fMin_nyq {c : Config} (h : configOk c = true) : le32 c.fMin (nyq c) = true := by
  obtain ⟨hnum, -, hle⟩ := configOk_fMin h
  obtain ⟨hfinite, -, hval⟩ := nyq_exact h
  exact le32_iff.2 ⟨hnum, isNaN_eq_false_of_isFinite hfinite, by rw [hval]; exact hle⟩

/-! ### Rounded quotients -/

/-- `rndHa` is the nearest integer to num / den, a tie upwards. -/
theorem rndHa_nearest (num : Nat) {den : Nat} (h : 0 < den) :
    2 * rndHa num den * den ≤ 2 * num + den ∧ 2 * num < (2 * rndHa num den + 1) * den := by
  have hlow := Nat.div_mul_le_self (2 * num + den) (2 * den)
  have hhigh := Nat.lt_div_mul_add (a := 2 * num + den) (b := 2 * den) (by omega)
  have hprod : rndHa num den * (2 * den) = 2 * rndHa num den * den := by ring
  rw [← rndHa, hprod] at hlow hhigh
  exact ⟨hlow, by rw [add_mul]; omega⟩

/-- An upper bound on num / den that is an integer is one on its rounding, and so is a lower one. -/
theorem rndHa_le {num den k : Nat} (h : 0 < den) (hk : num ≤ k * den) : rndHa num den ≤ k :=
  Nat.le_of_lt_succ ((Nat.div_lt_iff_lt_mul (by omega)).2 (by rw [Nat.succ_mul]; nlinarith))

theorem le_rndHa {num den k : Nat} (h : 0 < den) (hk : k * den ≤ num) : k ≤ rndHa num den :=
  (Nat.le_div_iff_mul_le (by omega)).2 (by nlinarith)

/-- DL_CAP is the ceiling of FS / F_MIN. -/
theorem dlCap_ceil {c : Config} (h : configOk c = true) :
    (dlCap c - 1) * fixMag c.fMin < 2 ^ 149 * c.fs ∧ 2 ^ 149 * c.fs ≤ dlCap c * fixMag c.fMin := by
  obtain ⟨-, hpos, -⟩ := configOk_fMin h
  have hden : 0 < fixMag c.fMin := by have := toFix_le_fixMag c.fMin; omega
  have hfs := (configOk_fs h).1
  have hlow := Nat.div_mul_le_self (2 ^ 149 * c.fs + fixMag c.fMin - 1) (fixMag c.fMin)
  have hhigh := Nat.lt_div_mul_add (a := 2 ^ 149 * c.fs + fixMag c.fMin - 1) hden
  rw [← dlCap] at hlow hhigh
  rw [Nat.sub_mul]
  omega

/-- A frequency in [F_MIN, NYQ] as a magnitude: at most half of FS, and FS / f at most DL_CAP. -/
theorem frequency_bounds {c : Config} {f : Word} (h : configOk c = true) (hlo : le32 c.fMin f = true)
    (hhi : le32 f (nyq c) = true) :
    0 < fixMag f ∧ 2 * fixMag f ≤ 2 ^ 149 * c.fs ∧ 2 ^ 149 * c.fs ≤ dlCap c * fixMag f := by
  obtain ⟨-, hpos, -⟩ := configOk_fMin h
  obtain ⟨-, -, hmin⟩ := le32_iff.1 hlo
  obtain ⟨-, -, hmax⟩ := le32_iff.1 hhi
  have hf := toFix_eq_fixMag (hpos.le.trans hmin)
  have hmin' := toFix_eq_fixMag hpos.le
  rw [hmin'] at hpos hmin
  rw [hf] at hmin
  rw [(nyq_exact h).2.2, hf] at hmax
  refine ⟨by omega, by omega, (dlCap_ceil h).2.trans (Nat.mul_le_mul_left _ (by omega))⟩

/-- On [F_MIN, NYQ] the clamp of the delay length changes nothing. -/
theorem delayLength_eq {c : Config} {f : Word} (h : configOk c = true) (hlo : le32 c.fMin f = true)
    (hhi : le32 f (nyq c) = true) :
    2 ≤ delayLength c f ∧ delayLength c f ≤ dlCap c ∧ delayLength c f = rndHa (2 ^ 149 * c.fs) (fixMag f) := by
  obtain ⟨hpos, hhalf, hcap⟩ := frequency_bounds h hlo hhi
  have hlow := le_rndHa hpos hhalf
  have hhigh := rndHa_le hpos hcap
  unfold delayLength clampi lMin
  split_ifs <;> omega

/-- Settles O39: the rounding of the exact quotient, which the clamp to L_MIN and DL_CAP leaves alone. -/
theorem delayLengthRoundsExactQuotient : Obligations.DelayLengthRoundsExactQuotient := by
  refine ⟨fun c h => ⟨(nyq_exact h).2.2, dlCap_ceil h⟩, ?_⟩
  intro c f h hlo hhi
  obtain ⟨hmin, hmax, heq⟩ := delayLength_eq h hlo hhi
  obtain ⟨hnear, hnear'⟩ := rndHa_nearest (2 ^ 149 * c.fs) (frequency_bounds h hlo hhi).1
  rw [← heq] at hnear hnear'
  refine ⟨hmin, hmax, ?_, .inl hnear'⟩
  rw [Nat.sub_mul, one_mul]
  omega

/-! ### The phase increment -/

theorem zero32_le_nyq {c : Config} (h : configOk c = true) : le32 zero32 (nyq c) = true := by
  obtain ⟨hfinite, -, hval⟩ := nyq_exact h
  exact le32_iff.2 ⟨rfl, isNaN_eq_false_of_isFinite hfinite, by rw [hval]; exact Int.natCast_nonneg _⟩

/-- The increment as a number: it does not wrap, since the clamped frequency is at most FS / 2. -/
theorem lfoIncrement_toNat {c : Config} (h : configOk c = true) (f : Word) :
    (lfoIncrement c f).toNat = rndHa (2 ^ 32 * fixMag (clampf f zero32 (nyq c))) (2 ^ 149 * c.fs) ∧
      (lfoIncrement c f).toNat ≤ 2 ^ 31 := by
  obtain ⟨hlo, hhi⟩ := clampf_between (zero32_le_nyq h) f
  obtain ⟨-, -, hnonneg⟩ := le32_iff.1 hlo
  obtain ⟨-, -, hmax⟩ := le32_iff.1 hhi
  rw [(nyq_exact h).2.2, toFix_eq_fixMag hnonneg] at hmax
  have hle : rndHa (2 ^ 32 * fixMag (clampf f zero32 (nyq c))) (2 ^ 149 * c.fs) ≤ 2 ^ 31 :=
    rndHa_le (by have := (configOk_fs h).1; omega) (by omega)
  have heq : (lfoIncrement c f).toNat = rndHa (2 ^ 32 * fixMag (clampf f zero32 (nyq c))) (2 ^ 149 * c.fs) := by
    rw [lfoIncrement, BitVec.toNat_ofNat, Nat.mod_eq_of_lt (by omega)]
  exact ⟨heq, heq.trans_le hle⟩

/-- Settles O40, by the four cases of the clamp to [0, NYQ]. -/
theorem lfoIncrementRoundsExactQuotient : Obligations.LfoIncrementRoundsExactQuotient := by
  intro c f h
  obtain ⟨hn, hle⟩ := lfoIncrement_toNat h f
  have hden : 0 < 2 ^ 149 * c.fs := by have := (configOk_fs h).1; omega
  obtain ⟨-, hnyq, hnyq'⟩ := nyq_exact h
  have hzero : toFix zero32 = 0 := rfl
  refine ⟨hle, fun hf => ?zero, fun hnum hf => ?top, fun hnum hpos hlt => ?between⟩
  case zero =>
    have hclamp : clampf f zero32 (nyq c) = zero32 := hf.elim clampf_nan (fun hle => clampf_low (hzero ▸ hle))
    rw [hclamp, show fixMag zero32 = 0 from rfl] at hn
    exact Nat.le_zero.1 (hn.trans_le (rndHa_le hden (by omega)))
  case top =>
    rw [clampf_high hnum (by omega) hf, hnyq] at hn
    exact le_antisymm hle ((le_rndHa hden (by omega)).trans hn.ge)
  case between =>
    rw [clampf_mid hnum (hzero ▸ hpos) hlt] at hn
    obtain ⟨hnear, hnear'⟩ := rndHa_nearest (2 ^ 32 * fixMag f) hden
    rw [← hn] at hnear hnear'
    exact ⟨by omega, by omega⟩

end Sys2Proof.Machine
end

section
/-! PROOFS. xorshift32 (00_scope.md R17) and Tanh32 (R18). -/

namespace Sys2Proof.Machine

/-! ### Xor-shifts are injective at 0 -/

/-- A word equal to itself shifted left has no lowest set bit, so it is 0. -/
theorem eq_zero_of_xor_shiftLeft {w k : Nat} {x : BitVec w} (hk : 0 < k) (h : x ^^^ (x <<< k) = 0#w) : x = 0#w := by
  have hbits : ∀ i, x.getLsbD i = false := by
    intro i
    induction i using Nat.strong_induction_on with
    | _ i ih =>
      have hbit := congrArg (fun y => y.getLsbD i) (BitVec.xor_eq_zero_iff.1 h)
      rw [BitVec.getLsbD_shiftLeft] at hbit
      rw [hbit]
      rcases Nat.lt_or_ge i k with hlt | hge
      · simp [hlt]
      · rw [ih (i - k) (by omega), Bool.and_false]
  exact BitVec.eq_of_getLsbD_eq fun i _ => by rw [hbits i, BitVec.getLsbD_zero]

/-- A word equal to itself shifted right is 0, for the shift makes every other word smaller. -/
theorem eq_zero_of_xor_ushiftRight {w k : Nat} {x : BitVec w} (hk : 0 < k) (h : x ^^^ (x >>> k) = 0#w) : x = 0#w := by
  have hval : x.toNat = x.toNat / 2 ^ k := by
    conv_lhs => rw [BitVec.xor_eq_zero_iff.1 h, BitVec.toNat_ushiftRight, Nat.shiftRight_eq_div_pow]
  refine BitVec.eq_of_toNat_eq ?_
  by_contra hne
  have := Nat.div_lt_self (Nat.pos_of_ne_zero hne) (Nat.one_lt_two_pow hk.ne')
  omega

/-- Settles O43: each of the three xor-shifts gives 0 only for 0. -/
theorem xorshiftKeepsNonzero : Obligations.XorshiftKeepsNonzero := by
  refine fun s => ⟨rfl, mt fun h => ?_, rfl⟩
  exact eq_zero_of_xor_shiftLeft (by decide) (eq_zero_of_xor_ushiftRight (by decide) (eq_zero_of_xor_shiftLeft (by decide) h))

/-! ### Tanh32 -/

theorem tanhMag_le (t : TanhChoice) (m : Nat) : tanhMag t m ≤ m ∧ tanhMag t m ≤ 0x3F800000 := by
  unfold tanhMag; split <;> omega

theorem tanhMag_lt (t : TanhChoice) (m : Nat) : tanhMag t m < 2 ^ 31 := (tanhMag_le t m).2.trans_lt (by decide)

@[simp] theorem tanhMag_zero (t : TanhChoice) : tanhMag t 0 = 0 := rfl

theorem runMax_mono (f : Nat → Nat) : Monotone (runMax f) :=
  monotone_nat_of_le_succ fun _ => le_max_left _ _

/-- The free function is monotone on magnitudes. -/
theorem tanhMag_free_mono : Monotone (tanhMag .free) := by
  intro a b hab
  rcases Nat.eq_zero_or_pos a with rfl | ha
  · exact Nat.zero_le _
  · rw [tanhMag, if_neg (by omega), tanhMag, if_neg (by omega)]
    exact min_le_min hab (min_le_min le_rfl (runMax_mono _ hab))

/-- Tanh32 of a finite operand. -/
theorem tanh32_finite (c : Config) {x : Word} (h : isFinite x = true) :
    tanh32 c x = pack (signBit x) (tanhMag c.tanh (magBits x)) := if_pos h

theorem neg32_pack (b : Bool) {m : Nat} (h : m < 2 ^ 31) : neg32 (pack b m) = pack (!b) m := by
  rw [neg32, signBit_pack b h, magBits_pack b h]

/-- Tanh32 is odd (T4). -/
theorem tanh32_neg32 (c : Config) (x : Word) : tanh32 c (neg32 x) = neg32 (tanh32 c x) := by
  cases hfinite : isFinite x with
  | true =>
    rw [tanh32_finite c ((isFinite_neg32 x).trans hfinite), tanh32_finite c hfinite, neg32_pack _ (tanhMag_lt _ _),
      signBit_neg32, magBits_neg32]
  | false => cases hsign : signBit x <;> simp [tanh32, hfinite, hsign]

/-- An order of values is one of signs, of magnitude bits, or both values are 0. -/
theorem toFix_le_cases {a b : Word} (h : toFix a ≤ toFix b) :
    (signBit a = true ∧ signBit b = false) ∨ (signBit a = false ∧ signBit b = false ∧ magBits a ≤ magBits b) ∨
      (signBit a = true ∧ signBit b = true ∧ magBits b ≤ magBits a) ∨ (magBits a = 0 ∧ magBits b = 0) := by
  have hle : ∀ {x y : Word}, fixMag x ≤ fixMag y → magBits x ≤ magBits y := magVal_strictMono.le_iff_le.1
  cases ha : signBit a <;> cases hb : signBit b <;>
    simp only [toFix, ha, hb, if_true, Bool.false_eq_true, if_false] at h
  · exact .inr (.inl ⟨rfl, rfl, hle (by omega)⟩)
  · refine .inr (.inr (.inr ?_))
    rw [← fixMag_eq_zero_iff, ← fixMag_eq_zero_iff]
    omega
  · exact .inl ⟨rfl, rfl⟩
  · exact .inr (.inr (.inl ⟨rfl, rfl, hle (by omega)⟩))

/-- Tanh32 is monotone on finite values where it is the free function (T5). -/
theorem toFix_tanh32_mono {c : Config} (hc : c.tanh = .free) {x y : Word} (hx : isFinite x = true) (hy : isFinite y = true)
    (h : toFix x ≤ toFix y) : toFix (tanh32 c x) ≤ toFix (tanh32 c y) := by
  have hmono : ∀ {a b}, a ≤ b → magVal (tanhMag .free a) ≤ magVal (tanhMag .free b) := fun hab =>
    magVal_strictMono.monotone (tanhMag_free_mono hab)
  rw [tanh32_finite c hx, tanh32_finite c hy, toFix_pack _ (tanhMag_lt _ _), toFix_pack _ (tanhMag_lt _ _), hc]
  rcases toFix_le_cases h with ⟨h1, h2⟩ | ⟨h1, h2, hle⟩ | ⟨h1, h2, hle⟩ | ⟨h1, h2⟩
  · rw [h1, h2]; simp
  · rw [h1, h2]; simpa using hmono hle
  · rw [h1, h2]; simpa using hmono hle
  · rw [h1, h2]; simp

/-- A magnitude of at most 1.0 is a finite value in [-1, 1]. -/
theorem absLe_one_pack (b : Bool) {m : Nat} (h : m ≤ 0x3F800000) : absLe 1 (pack b m) := by
  refine ⟨isFinite_pack b (h.trans_lt (by decide)), ?_⟩
  rw [fixMag_pack b (h.trans_lt (by decide)), mul_one, ← magVal_one32]
  exact magVal_strictMono.monotone h

/-- Settles O47: T4, then T2, T3, the sign and T5 of a finite operand. -/
theorem tanhHasItsProperties : Obligations.TanhHasItsProperties := by
  refine ⟨fun c x => by rw [← neg32_eq_xor, ← neg32_eq_xor, tanh32_neg32], fun c x hx => ?_⟩
  obtain ⟨hle, hone⟩ := tanhMag_le c.tanh (magBits x)
  have hlt := tanhMag_lt c.tanh (magBits x)
  have hval := tanh32_finite c hx
  refine ⟨hval ▸ absLe_one_pack _ hone, ?_, by rw [hval, signBit_pack _ hlt], fun hc y hy hxy => ?_⟩
  · rw [hval, fixMag_pack _ hlt]
    exact magVal_strictMono.monotone hle
  · have finite : ∀ {z}, isFinite z = true → isNaN (tanh32 c z) = false := fun {z} hz =>
      isNaN_eq_false_of_isFinite
        (tanh32_finite c hz ▸ isFinite_pack _ ((tanhMag_le c.tanh (magBits z)).2.trans_lt (by decide)))
    obtain ⟨-, -, hle⟩ := le32_iff.1 hxy
    exact le32_iff.2 ⟨finite hx, finite hy, toFix_tanh32_mono hc hx hy hle⟩

end Sys2Proof.Machine
end

section
/-! PROOFS. No operation changes the parameters or the events still to come (log entries 1 and 4). -/

namespace Sys2Proof.Machine

/-- t has the parameters and the remaining events of s. -/
def SameEnvironment (s t : State) : Prop := t.cfg = s.cfg ∧ t.events = s.events

theorem respond_sameEnvironment {w : Word} {s t : State} (h : respond w s = .next t) : SameEnvironment s t := by
  rw [respond_next h]; exact ⟨rfl, rfl⟩

theorem update_sameEnvironment {f : State → State} {s t : State} (h : update f s = .next t)
    (hf : SameEnvironment s.quiet (f s.quiet)) : SameEnvironment s t := by
  rw [update_next h]; exact hf

theorem invalidAccess_sameEnvironment {w : Bool} {s t : State} (h : invalidAccess w s = .next t) :
    SameEnvironment s t := by
  rw [invalidAccess_next h]; exact ⟨rfl, rfl⟩

theorem readLfo_sameEnvironment {i : BitVec 2} {f : Lfo → Word} {s t : State} (h : readLfo i f s = .next t) :
    SameEnvironment s t := by
  rcases readLfo_cases h with ⟨x, -, rfl⟩ | ⟨-, rfl⟩ <;> exact ⟨rfl, rfl⟩

theorem writeLfo_sameEnvironment {i : BitVec 2} {f : Lfo → Lfo} {s t : State} (h : writeLfo i f s = .next t) :
    SameEnvironment s t := by
  rcases writeLfo_cases h with ⟨x, -, rfl⟩ | ⟨-, rfl⟩ <;> exact ⟨rfl, rfl⟩

theorem readVoice_sameEnvironment {v : BitVec 4} {f : Voice → Word} {s t : State} (h : readVoice v f s = .next t) :
    SameEnvironment s t := by
  rcases readVoice_cases h with ⟨x, -, rfl⟩ | ⟨-, rfl⟩ <;> exact ⟨rfl, rfl⟩

theorem writeVoice_sameEnvironment {v : BitVec 4} {f : Voice → Voice} {s t : State} (h : writeVoice v f s = .next t) :
    SameEnvironment s t := by
  rcases writeVoice_cases h with ⟨x, -, rfl⟩ | ⟨-, rfl⟩ <;> exact ⟨rfl, rfl⟩

theorem tick_sameEnvironment {s t : State} (h : tick s = .next t) : SameEnvironment s t := by
  rcases tick_cases h with ⟨-, rfl⟩ | ⟨-, -, rfl⟩
  · exact ⟨rfl, rfl⟩
  · exact ⟨enabledTick_cfg s, enabledTick_events s⟩

theorem execCmdTick_sameEnvironment {s t : State} (h : execCmdTick s = .next t) : SameEnvironment s t := by
  unfold execCmdTick at h
  split at h
  · exact tick_sameEnvironment h
  · exact update_sameEnvironment h ⟨rfl, rfl⟩

theorem execStrobe_sameEnvironment {s t : State} (h : execStrobe s = .next t) : SameEnvironment s t := by
  unfold execStrobe at h
  split at h
  · exact update_sameEnvironment h ⟨rfl, rfl⟩
  · exact tick_sameEnvironment h

theorem execStrobeDrop_sameEnvironment {s t : State} (h : execStrobeDrop s = .next t) : SameEnvironment s t := by
  unfold execStrobeDrop at h
  split at h <;> exact update_sameEnvironment h ⟨rfl, rfl⟩

theorem execReset_sameEnvironment {s t : State} (h : execReset s = .next t) : SameEnvironment s t := by
  cases h; exact ⟨rfl, rfl⟩

/-- Settles O51: every operation but RESET answers by a shared operation, each of which keeps both. -/
theorem operationsKeepParametersAndEvents : Obligations.OperationsKeepParametersAndEvents := by
  intro i s t h
  cases i with
  | rdId | rdConfig | rdCtrl | rdCmd | rdStatus | rdSampleCount | rdTrig | rdOutL | rdOutR | rdDlSel | rdDlData
  | rdVibDepth | rdTremDepth | rdToneDepth | rdRevFb | rdRevMix | rdDrive | rdMakeup | rdVoiceSum | rdDcOut | rdRevOut =>
    exact respond_sameEnvironment h
  | wrCtrl | cmdNop | cmdCommit | cmdClear | cmdReserved | wrStatus | wrTrig | wrDlSel | wrVibDepth | wrTremDepth
  | wrToneDepth | wrRevFb | wrRevMix | wrDrive | wrMakeup | roWrite =>
    cases h; exact ⟨rfl, rfl⟩
  | rdLfoFreq | rdLfoPhase | rdLfoOut | rdLfoCos => exact readLfo_sameEnvironment h
  | wrLfoFreq => exact writeLfo_sameEnvironment h
  | rdVFreq | rdVDamp | rdVBright | rdVLen | rdVPos | rdVFilt | rdVOut | rdVSeed => exact readVoice_sameEnvironment h
  | wrVFreq | wrVDamp | wrVBright | wrVSeed => exact writeVoice_sameEnvironment h
  | invalid => exact invalidAccess_sameEnvironment h
  | cmdTick => exact execCmdTick_sameEnvironment h
  | strobe => exact execStrobe_sameEnvironment h
  | strobeDrop => exact execStrobeDrop_sameEnvironment h
  | reset => exact execReset_sameEnvironment h

end Sys2Proof.Machine
end

section
/-! PROOFS. The state after RESET meets the invariants (10_state.md R58, 70_reset_and_hazards.md R321). -/

namespace Sys2Proof.Machine

theorem Memory.ok_nil (n : Nat) : Memory.ok n [] := ⟨⟨.nil, by simp⟩, by simp⟩

theorem Memory.bounded_nil (b : Nat) : Memory.bounded b [] := by simp

theorem absLe_zero32 (b : Nat) : absLe b zero32 := ⟨rfl, Nat.zero_le _⟩

/-- The number of units, their seeds and their sizes in a configuration that meets R8. -/
theorem configOk_units {c : Config} (h : configOk c = true) :
    (∀ p ∈ c.voices, p.seedReset ≠ 0) ∧ (∀ n ∈ c.combLen, 1 ≤ n) ∧ ∀ n ∈ c.apLen, 1 ≤ n := by
  simp only [configOk, unitsOk, Bool.and_eq_true, List.all_eq_true, decide_eq_true_eq, bne_iff_ne] at h
  obtain ⟨⟨⟨⟨⟨⟨⟨-, hseeds⟩, -⟩, hcombs⟩, haps⟩, -⟩, -⟩, -⟩ := h
  exact ⟨hseeds, hcombs, haps⟩

/-- A voice after RESET: its length is that of its clamped reset frequency, and its memory is empty. -/
theorem Voice.reset_ok {c : Config} (h : configOk c = true) {p : VoiceConfig} (hp : p ∈ c.voices) :
    Voice.ok c (Voice.reset c p) := by
  obtain ⟨hlo, hhi⟩ := clampf_between (le32_fMin_nyq h) p.resetFreq
  obtain ⟨hmin, hmax, -⟩ := delayLength_eq h hlo hhi
  exact ⟨hmin, hmax, Nat.lt_of_lt_of_le Nat.zero_lt_two hmin, (configOk_units h).1 p hp, Memory.ok_nil _⟩

theorem Voice.reset_bounded (c : Config) (p : VoiceConfig) : Voice.bounded (Voice.reset c p) :=
  ⟨Memory.bounded_nil 1, absLe_zero32 1, absLe_zero32 1⟩

theorem State.resetOf_bitsOk (c : Config) : (State.resetOf c).bitsOk :=
  show 0x180#32 = ctrlWritten 0x180#32 ∧ 0#32 = statusRead 0#32 ∧ 0#32 = dlSelBits 0#32 by decide

theorem State.resetOf_inv {c : Config} (h : configOk c = true) : (State.resetOf c).Inv := by
  obtain ⟨-, hcombs, haps⟩ := configOk_units h
  refine ⟨h, List.length_map .., ?voices, ?combs, ?allpasses, State.resetOf_bitsOk c, rfl, rfl⟩
  case voices =>
    intro v hv
    obtain ⟨p, hp, rfl⟩ := List.mem_map.1 hv
    exact Voice.reset_ok h hp
  case combs =>
    exact List.forall₂_map_right_iff.2 (List.forall₂_same.2 fun n hn => ⟨hcombs n hn, Memory.ok_nil n⟩)
  case allpasses =>
    exact List.forall₂_map_right_iff.2 (List.forall₂_same.2 fun n hn => ⟨haps n hn, Memory.ok_nil n⟩)

theorem State.resetOf_voicesBounded (c : Config) : (State.resetOf c).VoicesBounded := by
  intro v hv
  obtain ⟨p, -, rfl⟩ := List.mem_map.1 hv
  exact Voice.reset_bounded c p

theorem State.resetOf_outBounded (c : Config) : (State.resetOf c).OutBounded :=
  ⟨absLe_zero32 1, absLe_zero32 1, absLe_zero32 1, absLe_zero32 1⟩

/-- The post chain after RESET holds zeros only, and the spec's parameters give it two allpasses. -/
theorem State.resetOf_postBounded {c : Config} (h : instanceButOpen c) : (State.resetOf c).PostBounded := by
  refine ⟨absLe_zero32 _, absLe_zero32 _, absLe_zero32 _, absLe_zero32 _, absLe_zero32 _, ?combs, ?allpasses⟩
  case combs =>
    intro x hx
    obtain ⟨n, -, rfl⟩ := List.mem_map.1 hx
    exact ⟨Memory.bounded_nil _, absLe_zero32 _⟩
  case allpasses =>
    have hlen : c.apLen = [556, 441] := by rw [h]; rfl
    show List.Forall₂ _ _ (c.apLen.map fun _ => Allpass.clear)
    rw [hlen]
    exact .cons (Memory.bounded_nil _) (.cons (Memory.bounded_nil _) .nil)

/-- The parameters of the value column of R8 meet R8. -/
theorem configOk_specInstance : configOk specInstance = true := by decide +kernel

/-- Settles O56, unit by unit; `State.reset` is the case c = `specInstance`. -/
theorem resetMeetsInvariants : Obligations.ResetMeetsInvariants :=
  ⟨fun c h => ⟨State.resetOf_inv h, State.resetOf_voicesBounded c, State.resetOf_outBounded c, State.resetOf_postBounded⟩,
    State.resetOf_inv configOk_specInstance, State.resetOf_voicesBounded _, State.resetOf_postBounded rfl,
    State.resetOf_outBounded _, rfl⟩

end Sys2Proof.Machine
end

section
/-! PROOFS. What an operation can do to the state, said once for all operations: a tick, CMD COMMIT, CMD CLEAR, RESET, or a
change of host-written registers only. -/

namespace Sys2Proof.Machine

/-- y is x with its shadow parameters, its pending trigger and its seed written: what bus writes reach of a voice
(10_state.md R36, R41, R42). No write stores the seed 0 (R188). -/
def Voice.RegistersWritten (x y : Voice) : Prop :=
  ∃ p b w, (x.seed ≠ 0 → w ≠ 0) ∧ y = { x with sh := p, trigPending := b, seed := w }

/-- What an operation other than a tick, CMD COMMIT, CMD CLEAR and RESET does: it answers, sets a STATUS bit, or writes a
register. -/
inductive RegisterEffect (s : State) : State → Prop where
  | answer (r : Option Word) : RegisterEffect s { s.quiet with rdata := r }
  | flag {b : Nat} (hb : b < 3) (r : Option Word) : RegisterEffect s { s.quiet.flag b with rdata := r }
  | ctrl (d : Word) : RegisterEffect s { s.quiet with ctrl := ctrlWritten d }
  | status (d : Word) : RegisterEffect s { s.quiet with status := statusWritten s.status d }
  | dlSel (d : Word) : RegisterEffect s { s.quiet with dlSel := dlSelBits d }
  | shGlobal (g : GlobalParams) : RegisterEffect s { s.quiet with shGlobal := g }
  | trig (d : Word) : RegisterEffect s { s.quiet with voices := orTrig d s.voices }
  | voice {k : Nat} {x y : Voice} (hx : s.voices[k]? = some x) (hy : x.RegistersWritten y) :
      RegisterEffect s { s.quiet with voices := s.voices.set k y }
  | lfo {i : BitVec 2} {x : Lfo} (hx : s.lfos.get i = some x) (d : Word) :
      RegisterEffect s { s.quiet with lfos := s.lfos.set i { x with shFreq := d } }

/-- The five things an operation can do. -/
inductive ExecEffect (i : Instr) (s t : State) : Prop where
  | tick (hi : makesTick i s = true) (h : Machine.tick s = .next t)
  | commit (hi : i = .cmdCommit) (h : t = s.quiet.commit)
  | clear (hi : i = .cmdClear) (h : t = s.quiet.clear)
  | reset (hi : i = .reset) (h : t = { State.resetOf s.cfg with events := s.events })
  | register (hi : makesTick i s = false) (h : RegisterEffect s t)

/-! ### The shared operations -/

theorem respond_effect {w : Word} {s t : State} (h : respond w s = .next t) : RegisterEffect s t :=
  respond_next h ▸ .answer (some w)

theorem invalidAccess_effect {w : Bool} {s t : State} (h : invalidAccess w s = .next t) : RegisterEffect s t :=
  invalidAccess_next h ▸ .flag (by decide) _

theorem readLfo_effect {i : BitVec 2} {f : Lfo → Word} {s t : State} (h : readLfo i f s = .next t) :
    RegisterEffect s t := by
  rcases readLfo_cases h with ⟨x, -, rfl⟩ | ⟨-, rfl⟩
  · exact .answer _
  · exact .flag (by decide) _

theorem readVoice_effect {v : BitVec 4} {f : Voice → Word} {s t : State} (h : readVoice v f s = .next t) :
    RegisterEffect s t := by
  rcases readVoice_cases h with ⟨x, -, rfl⟩ | ⟨-, rfl⟩
  · exact .answer _
  · exact .flag (by decide) _

theorem writeLfo_effect {i : BitVec 2} {d : Word} {s t : State}
    (h : writeLfo i (fun x => { x with shFreq := d }) s = .next t) : RegisterEffect s t := by
  rcases writeLfo_cases h with ⟨x, hx, rfl⟩ | ⟨-, rfl⟩
  · exact .lfo hx d
  · exact .flag (by decide) none

theorem writeVoice_effect {v : BitVec 4} {f : Voice → Voice} {s t : State} (hf : ∀ x : Voice, x.RegistersWritten (f x))
    (h : writeVoice v f s = .next t) : RegisterEffect s t := by
  rcases writeVoice_cases h with ⟨x, hx, rfl⟩ | ⟨-, rfl⟩
  · exact .voice hx (hf x)
  · exact .flag (by decide) none

theorem Voice.registersWritten_sh (x : Voice) (p : VoiceParams) : x.RegistersWritten { x with sh := p } :=
  ⟨p, x.trigPending, x.seed, id, rfl⟩

theorem seedWritten_ne_zero (d : Word) : seedWritten d ≠ 0 := by
  unfold seedWritten
  split
  · decide
  · assumption

theorem Voice.registersWritten_seed (x : Voice) (d : Word) : x.RegistersWritten { x with seed := seedWritten d } :=
  ⟨x.sh, x.trigPending, seedWritten d, fun _ => seedWritten_ne_zero d, rfl⟩

/-! ### Every operation -/

/-- An operation that makes a tick is one. -/
theorem exec_eq_tick {i : Instr} {s : State} (h : makesTick i s = true) : exec i s = tick s := by
  cases i with
  | cmdTick => exact if_pos h
  | strobe => exact if_neg (by simpa [makesTick] using h)
  | _ => cases h

theorem execCmdTick_effect {s t : State} (h : execCmdTick s = .next t) : ExecEffect .cmdTick s t := by
  cases hsrc : ctrlTickSrc s.ctrl with
  | true => exact .tick hsrc (exec_eq_tick (i := .cmdTick) hsrc ▸ h)
  | false =>
    rw [execCmdTick, hsrc, if_neg Bool.false_ne_true] at h
    exact .register hsrc (update_next h ▸ .flag (by decide) none)

theorem execStrobe_effect {s t : State} (h : execStrobe s = .next t) : ExecEffect .strobe s t := by
  cases hsrc : ctrlTickSrc s.ctrl with
  | false =>
    have hi : makesTick .strobe s = true := by simp [makesTick, hsrc]
    exact .tick hi (exec_eq_tick hi ▸ h)
  | true =>
    rw [execStrobe, hsrc, if_pos rfl] at h
    exact .register (by simp [makesTick, hsrc]) (update_next h ▸ .answer none)

theorem execStrobeDrop_effect {s t : State} (h : execStrobeDrop s = .next t) : RegisterEffect s t := by
  unfold execStrobeDrop at h
  split at h
  · exact update_next h ▸ .answer none
  · exact update_next h ▸ .flag (by decide) none

/-- Says once what an operation can do. -/
theorem exec_effect {i : Instr} {s t : State} (h : exec i s = .next t) : ExecEffect i s t := by
  cases i with
  | cmdTick => exact execCmdTick_effect h
  | strobe => exact execStrobe_effect h
  | cmdCommit => exact .commit rfl (update_next h)
  | cmdClear => exact .clear rfl (update_next h)
  | reset => cases h; exact .reset rfl rfl
  | rdId | rdConfig | rdCtrl | rdCmd | rdStatus | rdSampleCount | rdTrig | rdOutL | rdOutR | rdDlSel | rdDlData
  | rdVibDepth | rdTremDepth | rdToneDepth | rdRevFb | rdRevMix | rdDrive | rdMakeup | rdVoiceSum | rdDcOut | rdRevOut =>
    exact .register rfl (respond_effect h)
  | rdLfoFreq | rdLfoPhase | rdLfoOut | rdLfoCos => exact .register rfl (readLfo_effect h)
  | rdVFreq | rdVDamp | rdVBright | rdVLen | rdVPos | rdVFilt | rdVOut | rdVSeed =>
    exact .register rfl (readVoice_effect h)
  | invalid => exact .register rfl (invalidAccess_effect h)
  | strobeDrop => exact .register rfl (execStrobeDrop_effect h)
  | cmdNop => cases h; exact .register rfl (.answer none)
  | cmdReserved | roWrite => cases h; exact .register rfl (.flag (by decide) none)
  | wrCtrl d => cases h; exact .register rfl (.ctrl d)
  | wrStatus d => cases h; exact .register rfl (.status d)
  | wrDlSel d => cases h; exact .register rfl (.dlSel d)
  | wrTrig d => cases h; exact .register rfl (.trig d)
  | wrVibDepth | wrTremDepth | wrToneDepth | wrRevFb | wrRevMix | wrDrive | wrMakeup =>
    cases h; exact .register rfl (.shGlobal _)
  | wrLfoFreq => exact .register rfl (writeLfo_effect h)
  | wrVFreq | wrVDamp | wrVBright => exact .register rfl (writeVoice_effect (fun x => x.registersWritten_sh _) h)
  | wrVSeed => exact .register rfl (writeVoice_effect (fun x => x.registersWritten_seed _) h)

/-! ### What a register write leaves alone -/

/-- The fields outside the voices and the LFOs that no register write reaches (10_state.md R36, R43, R54). -/
structure SameSignals (s t : State) : Prop where
  cfg : t.cfg = s.cfg
  actGlobal : t.actGlobal = s.actGlobal
  combs : t.combs = s.combs
  allpasses : t.allpasses = s.allpasses
  dcX1 : t.dcX1 = s.dcX1
  dcY1 : t.dcY1 = s.dcY1
  sampleCount : t.sampleCount = s.sampleCount
  outL : t.outL = s.outL
  outR : t.outR = s.outR
  tapSum : t.tapSum = s.tapSum
  tapDc : t.tapDc = s.tapDc
  tapRev : t.tapRev = s.tapRev
  portL : t.portL = s.portL
  portR : t.portR = s.portR

theorem RegisterEffect.sameSignals {s t : State} (h : RegisterEffect s t) : SameSignals s t := by
  cases h <;> constructor <;> rfl

theorem Voice.RegistersWritten.refl (x : Voice) : x.RegistersWritten x := ⟨x.sh, x.trigPending, x.seed, id, rfl⟩

theorem orTrigFrom_registersWritten (d : Word) (vs : List Voice) (k : Nat) :
    List.Forall₂ Voice.RegistersWritten vs (orTrigFrom d vs k) := by
  induction vs generalizing k with
  | nil => exact .nil
  | cons x xs ih => exact .cons ⟨x.sh, _, x.seed, id, rfl⟩ (ih (k + 1))

theorem set_registersWritten {vs : List Voice} {k : Nat} {x y : Voice} (hx : vs[k]? = some x)
    (hy : x.RegistersWritten y) : List.Forall₂ Voice.RegistersWritten vs (vs.set k y) := by
  induction vs generalizing k with
  | nil => exact .nil
  | cons v vs ih =>
    cases k with
    | zero =>
      obtain rfl : v = x := by simpa using hx
      exact .cons hy (List.forall₂_same.2 fun v _ => .refl v)
    | succ k => exact .cons (.refl v) (ih (by simpa using hx))

theorem RegisterEffect.voices {s t : State} (h : RegisterEffect s t) :
    List.Forall₂ Voice.RegistersWritten s.voices t.voices := by
  cases h with
  | trig d => exact orTrigFrom_registersWritten d s.voices 0
  | voice hx hy => exact set_registersWritten hx hy
  | _ => exact List.forall₂_same.2 fun v _ => .refl v

/-- What does not depend on a voice's registers is the same of every voice. -/
theorem map_eq_of_registersWritten {β : Type} {g : Voice → β} {vs ws : List Voice}
    (h : List.Forall₂ Voice.RegistersWritten vs ws)
    (hg : ∀ x p b w, g { x with sh := p, trigPending := b, seed := w } = g x) : ws.map g = vs.map g := by
  induction h with
  | nil => rfl
  | cons hxy _ ih =>
    obtain ⟨p, b, w, -, rfl⟩ := hxy
    rw [List.map_cons, List.map_cons, hg, ih]

end Sys2Proof.Machine
end

section
/-! PROOFS. What ticks alone do: they move the signal state (10_state.md R43, R54), and they need their cells (R58). -/

namespace Sys2Proof.Machine

/-- Settles O55: what makes no tick and is not CMD CLEAR, RESET or CMD COMMIT writes registers only, and CMD COMMIT
loads parameters. -/
theorem signalStateChangesOnlyInTicksClearAndReset : Obligations.SignalStateChangesOnlyInTicksClearAndReset := by
  intro i s t h htick hclear hreset
  cases exec_effect h with
  | tick hi => simp [hi] at htick
  | clear hi => exact absurd hi hclear
  | reset hi => exact absurd hi hreset
  | commit hi ht =>
    subst ht
    simp [Function.comp_def]
  | register hi hr =>
    have hv := hr.voices
    have hs := hr.sameSignals
    refine ⟨?_, ?_, ?_, ?_, ?_, hs.combs, hs.allpasses, hs.dcX1, hs.dcY1, hs.sampleCount, hs.outL, hs.outR, hs.tapSum,
      hs.tapDc, hs.tapRev⟩
    all_goals exact map_eq_of_registersWritten hv fun _ _ _ _ => rfl

/-- Settles O30: an operation that makes a tick is one, and an enabled tick checks its cells first. -/
theorem enabledTickNeedsItsCells : Obligations.EnabledTickNeedsItsCells := by
  intro s i htick hen hcells
  rw [exec_eq_tick htick, tick, if_pos hen, hcells]
  rfl

end Sys2Proof.Machine
end

section
/-! PROOFS. Only CMD COMMIT and RESET change an active copy (10_state.md R36). -/

namespace Sys2Proof.Machine

theorem LfoBank.get_map (f : Lfo → Lfo) (b : LfoBank) (j : BitVec 2) : (b.map f).get j = (b.get j).map f := by
  unfold LfoBank.get
  split <;> rfl

theorem bitVec2_cases : ∀ i : BitVec 2, i = 0#2 ∨ i = 1#2 ∨ i = 2#2 ∨ i = 3#2 := by decide

theorem LfoBank.get_set (b : LfoBank) (i j : BitVec 2) (x : Lfo) :
    (b.set i x).get j = if j = i then (b.get i).map fun _ => x else b.get j := by
  rcases bitVec2_cases i with rfl | rfl | rfl | rfl <;> rcases bitVec2_cases j with rfl | rfl | rfl | rfl <;> rfl

/-- The active copies of t are those of s: global, voice by voice, LFO by LFO. -/
structure SameActive (s t : State) : Prop where
  actGlobal : t.actGlobal = s.actGlobal
  voices : t.voices.map Voice.act = s.voices.map Voice.act
  lfos : ∀ j, (t.lfos.get j).map Lfo.actFreq = (s.lfos.get j).map Lfo.actFreq

/-- An update of every LFO that keeps its active frequency keeps that of each. -/
theorem LfoBank.map_actFreq {f : Lfo → Lfo} (hf : ∀ x, (f x).actFreq = x.actFreq) (b : LfoBank) (j : BitVec 2) :
    ((b.map f).get j).map Lfo.actFreq = (b.get j).map Lfo.actFreq := by
  rw [LfoBank.get_map, Option.map_map]
  exact congrArg (Option.map · _) (funext hf)

/-- A replacement of one LFO that keeps its active frequency keeps that of each. -/
theorem LfoBank.set_actFreq {b : LfoBank} {i : BitVec 2} {x y : Lfo} (hx : b.get i = some x)
    (hy : y.actFreq = x.actFreq) (j : BitVec 2) :
    ((b.set i y).get j).map Lfo.actFreq = (b.get j).map Lfo.actFreq := by
  rw [LfoBank.get_set]
  split_ifs with hj
  · simp [hj, hx, hy]
  · rfl

theorem RegisterEffect.sameActive {s t : State} (h : RegisterEffect s t) : SameActive s t where
  actGlobal := h.sameSignals.actGlobal
  voices := map_eq_of_registersWritten h.voices fun _ _ _ _ => rfl
  lfos := by
    cases h with
    | lfo hx d => exact LfoBank.set_actFreq hx rfl
    | _ => exact fun _ => rfl

theorem voiceStep_act (c : Config) (ctrl : Word) (g : GlobalParams) (l0 l2 : Word) (v : Voice) :
    (voiceStep c ctrl g l0 l2 v).act = v.act := by
  obtain ⟨-, hact, -⟩ := voiceStep_fields (c := c) (ctrl := ctrl) (g := g) (l0 := l0) (l2 := l2) (x := v) rfl rfl rfl
  exact hact

theorem enabledTick_sameActive (s : State) : SameActive s (enabledTick s) where
  actGlobal := enabledTick_actGlobal s
  voices := by
    rw [enabledTick_voices, tickVoices, List.map_map]
    exact List.map_congr_left fun v _ => voiceStep_act ..
  lfos := by
    rw [enabledTick_lfos]
    exact LfoBank.map_actFreq (Lfo.advance_actFreq s.cfg) s.lfos

theorem tick_sameActive {s t : State} (h : tick s = .next t) : SameActive s t := by
  rcases tick_cases h with ⟨-, rfl⟩ | ⟨-, -, rfl⟩
  · exact ⟨rfl, rfl, fun _ => rfl⟩
  · exact enabledTick_sameActive s

theorem clear_sameActive (s : State) : SameActive s s.quiet.clear where
  actGlobal := rfl
  voices := by simp [Function.comp_def]
  lfos := LfoBank.map_actFreq (f := Lfo.clear) (fun _ => rfl) s.lfos

/-- Settles O50: ticks, CMD CLEAR and register writes keep every active copy. -/
theorem onlyCommitAndResetChangeActiveCopies : Obligations.OnlyCommitAndResetChangeActiveCopies := by
  intro i s t h hcommit hreset
  have hsame : SameActive s t := by
    cases exec_effect h with
    | tick hi ht => exact tick_sameActive ht
    | commit hi => exact absurd hi hcommit
    | clear hi ht => exact ht ▸ clear_sameActive s
    | reset hi => exact absurd hi hreset
    | register hi hr => exact hr.sameActive
  refine ⟨hsame.actGlobal, hsame.voices, fun j x y hx hy => ?_⟩
  simpa [hx, hy] using hsame.lfos j

end Sys2Proof.Machine
end

section
/-! PROOFS. Every step keeps the invariant of the state (10_state.md R58). -/

namespace Sys2Proof.Machine

/-! ### Hardwired and reserved bits -/

theorem ctrlWritten_ctrlWritten (d : Word) : ctrlWritten (ctrlWritten d) = ctrlWritten d := by
  rw [ctrlWritten, ctrlWritten, BitVec.and_or_distrib_right, BitVec.and_assoc, BitVec.and_self, BitVec.or_assoc]
  rfl

theorem dlSelBits_dlSelBits (d : Word) : dlSelBits (dlSelBits d) = dlSelBits d := by
  rw [dlSelBits, dlSelBits, BitVec.and_assoc, BitVec.and_self]

/-- A named STATUS bit is one of those a host sees (10_state.md R53). -/
theorem statusRead_flag {w : Word} (hw : w = statusRead w) {b : Nat} (hb : b < 3) :
    w ||| 1#32 <<< b = statusRead (w ||| 1#32 <<< b) := by
  have hbit : 1#32 <<< b = statusRead (1#32 <<< b) := by
    interval_cases b <;> decide
  unfold statusRead at hw hbit ⊢
  rw [BitVec.and_or_distrib_right, ← hw, ← hbit]

theorem statusRead_statusWritten {w : Word} (hw : w = statusRead w) (d : Word) :
    statusWritten w d = statusRead (statusWritten w d) := by
  unfold statusRead at hw ⊢
  rw [statusWritten, BitVec.and_assoc, BitVec.and_comm (~~~_) 7#32, ← BitVec.and_assoc, ← hw]

theorem RegisterEffect.bitsOk {s t : State} (h : RegisterEffect s t) (hs : s.bitsOk) : t.bitsOk := by
  obtain ⟨hctrl, hstatus, hsel⟩ := hs
  cases h with
  | flag hb r => exact ⟨hctrl, statusRead_flag hstatus hb, hsel⟩
  | ctrl d => exact ⟨(ctrlWritten_ctrlWritten d).symm, hstatus, hsel⟩
  | status d => exact ⟨hctrl, statusRead_statusWritten hstatus d, hsel⟩
  | dlSel d => exact ⟨hctrl, hstatus, (dlSelBits_dlSelBits d).symm⟩
  | _ => exact ⟨hctrl, hstatus, hsel⟩

/-! ### Voices -/

theorem Voice.RegistersWritten.ok {c : Config} {x y : Voice} (h : x.RegistersWritten y) (hx : Voice.ok c x) :
    Voice.ok c y := by
  obtain ⟨p, b, w, hseed, rfl⟩ := h
  obtain ⟨hmin, hmax, hpos, hne, hbuf⟩ := hx
  exact ⟨hmin, hmax, hpos, hseed hne, hbuf⟩

theorem voices_ok_of_registersWritten {c : Config} {vs ws : List Voice}
    (h : List.Forall₂ Voice.RegistersWritten vs ws) (hvs : ∀ v ∈ vs, Voice.ok c v) : ∀ w ∈ ws, Voice.ok c w := by
  induction h with
  | nil => exact hvs
  | cons hxy _ ih =>
    obtain ⟨hx, hxs⟩ := List.forall_mem_cons.1 hvs
    exact List.forall_mem_cons.2 ⟨hxy.ok hx, ih hxs⟩

theorem Voice.clear_ok {c : Config} {v : Voice} (h : Voice.ok c v) : Voice.ok c v.clear := by
  obtain ⟨hmin, hmax, hpos, hseed, -⟩ := h
  exact ⟨hmin, hmax, Nat.zero_lt_of_lt hpos, hseed, Memory.ok_nil _⟩

theorem Voice.resize_ok {c : Config} {v : Voice} (h : Voice.ok c v) {l : Nat} (hlo : lMin ≤ l) (hhi : l ≤ dlCap c) :
    Voice.ok c (v.resize l) := by
  obtain ⟨-, -, hpos, hseed, hbuf⟩ := h
  unfold Voice.resize
  split
  case isTrue heq => exact ⟨heq ▸ hlo, heq ▸ hhi, hpos, hseed, hbuf⟩
  case isFalse =>
    refine ⟨hlo, hhi, ?_, hseed, hbuf⟩
    show (if l ≤ v.pos then 0 else v.pos) < l
    unfold lMin at hlo
    split <;> omega

/-- xorshift32 never reaches 0 (00_scope.md R17), so no excitation leaves the seed 0. -/
theorem fill_seed_ne_zero (n : Nat) {k : Nat} {w : Word} {m : Memory} (hw : w ≠ 0) : (fill n k w m).2 ≠ 0 := by
  induction n generalizing k w m with
  | zero => exact hw
  | succ n ih => exact ih ((xorshiftKeepsNonzero w).2.1 hw)

theorem Voice.excite_ok {c : Config} {v : Voice} (h : Voice.ok c v) : Voice.ok c v.excite := by
  obtain ⟨hmin, hmax, hpos, hseed, hwf, hbelow⟩ := h
  exact ⟨hmin, hmax, Nat.zero_lt_of_lt hpos, fill_seed_ne_zero _ hseed, fill_wf _ _ _ _ hwf,
    fill_below _ _ _ _ (by omega) hbelow⟩

theorem Voice.consume_ok {c : Config} {v : Voice} (h : Voice.ok c v) : Voice.ok c v.consume := by
  unfold Voice.consume
  split
  · exact Voice.excite_ok h
  · exact h

theorem Voice.emit_ok {c : Config} {v : Voice} (h : Voice.ok c v) (y : Word) : Voice.ok c (v.emit y) := by
  obtain ⟨hmin, hmax, hpos, hseed, hbuf⟩ := h
  exact ⟨hmin, hmax, Nat.mod_lt _ (Nat.zero_lt_of_lt hpos), hseed, Memory.write_ok hbuf (hpos.trans_le hmax) y⟩

/-- The frequency of a tick lies in [F_MIN, NYQ], with vibrato or without (43_voice_engine.md R241, R242). -/
theorem voiceFreq_between {c : Config} (hc : configOk c = true) (ctrl : Word) (g : GlobalParams) (l0 : Word) (v : Voice) :
    le32 c.fMin (voiceFreq c ctrl g l0 v) = true ∧ le32 (voiceFreq c ctrl g l0 v) (nyq c) = true := by
  unfold voiceFreq
  simp only
  split <;> exact clampf_between (le32_fMin_nyq hc) _

theorem voiceStep_ok {c : Config} (hc : configOk c = true) (ctrl : Word) (g : GlobalParams) (l0 l2 : Word) {v : Voice}
    (h : Voice.ok c v) : Voice.ok c (voiceStep c ctrl g l0 l2 v) := by
  obtain ⟨hlo, hhi⟩ := voiceFreq_between hc ctrl g l0 v
  obtain ⟨hmin, hmax, -⟩ := delayLength_eq hc hlo hhi
  exact Voice.emit_ok (Voice.consume_ok (Voice.resize_ok h hmin hmax)) _

/-! ### Combs and allpasses -/

theorem Comb.clear_ok {n : Nat} {x : Comb} (h : Comb.ok n x) : Comb.ok n Comb.clear :=
  ⟨Nat.zero_lt_of_lt h.1, Memory.ok_nil n⟩

theorem Allpass.clear_ok {n : Nat} {x : Allpass} (h : Allpass.ok n x) : Allpass.ok n Allpass.clear :=
  ⟨Nat.zero_lt_of_lt h.1, Memory.ok_nil n⟩

theorem Comb.step_ok {n : Nat} {x : Comb} (h : Comb.ok n x) (c : Config) (fb e : Word) :
    Comb.ok n (x.step c fb e n) :=
  ⟨Nat.mod_lt _ (Nat.zero_lt_of_lt h.1), Memory.write_ok h.2 h.1 _⟩

theorem Allpass.step_ok {n : Nat} {x : Allpass} (h : Allpass.ok n x) (g w : Word) : Allpass.ok n (x.step g w n) :=
  ⟨Nat.mod_lt _ (Nat.zero_lt_of_lt h.1), Memory.write_ok h.2 h.1 _⟩

theorem combSteps_ok {ns : List Nat} {xs : List Comb} (h : List.Forall₂ Comb.ok ns xs) (c : Config) (fb e : Word) :
    List.Forall₂ Comb.ok ns (List.zipWith (Comb.step c fb e) ns xs) := by
  induction h with
  | nil => exact .nil
  | cons hx _ ih => exact .cons (Comb.step_ok hx c fb e) ih

theorem allpassSteps_ok {ns : List Nat} {xs : List Allpass} (h : List.Forall₂ Allpass.ok ns xs) (g w : Word) :
    List.Forall₂ Allpass.ok ns (allpassSteps g w ns xs) := by
  induction h generalizing w with
  | nil => exact .nil
  | cons hx _ ih => exact .cons (Allpass.step_ok hx g w) (ih _)

theorem tickCombs_ok {s : State} (h : List.Forall₂ Comb.ok s.cfg.combLen s.combs) :
    List.Forall₂ Comb.ok s.cfg.combLen (tickCombs s) := by
  unfold tickCombs
  split
  · exact combSteps_ok h _ _ _
  · exact h

theorem tickAllpasses_ok {s : State} (h : List.Forall₂ Allpass.ok s.cfg.apLen s.allpasses) :
    List.Forall₂ Allpass.ok s.cfg.apLen (tickAllpasses s) := by
  unfold tickAllpasses
  split
  · exact allpassSteps_ok h _ _
  · exact h

/-! ### The five things an operation can do -/

theorem silentTick_inv {s : State} (h : s.Inv) : (silentTick s).Inv := by
  obtain ⟨hcfg, hlen, hvoices, hcombs, haps, hbits, -⟩ := h
  exact ⟨hcfg, hlen, hvoices, hcombs, haps, hbits, rfl, rfl⟩

theorem enabledTick_inv {s : State} (h : s.Inv) : (enabledTick s).Inv := by
  obtain ⟨hcfg, hlen, hvoices, hcombs, haps, hbits, -⟩ := h
  simp only [State.Inv, State.bitsOk, State.mono, enabledTick_cfg, enabledTick_voices, enabledTick_combs,
    enabledTick_allpasses, enabledTick_ctrl, enabledTick_status, enabledTick_dlSel]
  refine ⟨hcfg, (List.length_map ..).trans hlen, ?voices, tickCombs_ok hcombs, tickAllpasses_ok haps, hbits, ?out,
    ?port⟩
  case voices => exact List.forall_mem_map.2 fun v hv => voiceStep_ok hcfg _ _ _ _ (hvoices v hv)
  case out => rw [enabledTick_outL, enabledTick_outR]
  case port => rw [enabledTick_portL, enabledTick_portR]

theorem tick_inv {s t : State} (hs : s.Inv) (h : tick s = .next t) : t.Inv := by
  rcases tick_cases h with ⟨-, rfl⟩ | ⟨-, -, rfl⟩
  · exact silentTick_inv hs
  · exact enabledTick_inv hs

theorem commit_inv {s : State} (h : s.Inv) : s.quiet.commit.Inv := by
  obtain ⟨hcfg, hlen, hvoices, hcombs, haps, hbits, hmono⟩ := h
  exact ⟨hcfg, (List.length_map ..).trans hlen, List.forall_mem_map.2 hvoices, hcombs, haps, hbits, hmono⟩

theorem clear_inv {s : State} (h : s.Inv) : s.quiet.clear.Inv := by
  obtain ⟨hcfg, hlen, hvoices, hcombs, haps, hbits, -, hport⟩ := h
  refine ⟨hcfg, (List.length_map ..).trans hlen, ?voices, ?combs, ?allpasses, hbits, rfl, hport⟩
  case voices => exact List.forall_mem_map.2 fun v hv => Voice.clear_ok (hvoices v hv)
  case combs => exact List.forall₂_map_right_iff.2 (hcombs.imp fun _ _ => Comb.clear_ok)
  case allpasses => exact List.forall₂_map_right_iff.2 (haps.imp fun _ _ => Allpass.clear_ok)

theorem RegisterEffect.inv {s t : State} (h : RegisterEffect s t) (hs : s.Inv) : t.Inv := by
  obtain ⟨hcfg, hlen, hvoices, hcombs, haps, hbits, hout, hport⟩ := hs
  have hsame := h.sameSignals
  have hwritten := h.voices
  refine ⟨?cfg, ?length, ?voices, ?combs, ?allpasses, h.bitsOk hbits, ?out, ?port⟩
  case cfg => rw [hsame.cfg, hcfg]
  case length => rw [hsame.cfg, ← hwritten.length_eq, hlen]
  case voices => rw [hsame.cfg]; exact voices_ok_of_registersWritten hwritten hvoices
  case combs => rwa [hsame.cfg, hsame.combs]
  case allpasses => rwa [hsame.cfg, hsame.allpasses]
  case out => rw [hsame.outL, hsame.outR, hout]
  case port => rw [hsame.portL, hsame.portR, hport]

theorem exec_inv {i : Instr} {s t : State} (hs : s.Inv) (h : exec i s = .next t) : t.Inv := by
  cases exec_effect h with
  | tick _ ht => exact tick_inv hs ht
  | commit _ ht => exact ht ▸ commit_inv hs
  | clear _ ht => exact ht ▸ clear_inv hs
  | reset _ ht => exact ht ▸ State.resetOf_inv hs.1
  | register _ hr => exact hr.inv hs

/-- Settles O57: a wait changes nothing, and every operation keeps the invariant, which does not speak of the events. -/
theorem stepKeepsInvariant : Obligations.StepKeepsInvariant := by
  intro s t hs h
  rcases step_cases h with ⟨-, rfl⟩ | ⟨e, es, -, hexec⟩
  · exact hs
  · exact exec_inv (s := { s with events := es }) hs hexec

end Sys2Proof.Machine
end

section
/-! PROOFS. No valid read has a side effect (20_memory.md R87, 40_bus_interface.md R130): a read is one of three shared
operations, and a well-formed one names an LFO and a voice that exist. -/

namespace Sys2Proof.Machine

/-- The step answers a word and changes nothing else; portValid falls as on every step that is not a tick
(41_tick_sequence.md R207). -/
def OnlyAnswers (s : State) (r : Result) : Prop := ∃ w, r = .next { s with portValid := false, rdata := some w }

theorem respond_onlyAnswers (w : Word) (s : State) : OnlyAnswers s (respond w s) := ⟨w, rfl⟩

theorem LfoBank.exists_get (b : LfoBank) {i : BitVec 2} (h : lfoIndexOk i = true) : ∃ x, b.get i = some x := by
  rcases bitVec2_cases i with rfl | rfl | rfl | rfl
  · exact ⟨b.l0, LfoBank.get_zero b⟩
  · exact ⟨b.l1, LfoBank.get_one b⟩
  · exact ⟨b.l2, LfoBank.get_two b⟩
  · exact absurd h (by decide)

theorem exists_voice {vs : List Voice} {v : BitVec 4} (h : voiceIndexOk vs.length v = true) :
    ∃ x, vs[v.toNat]? = some x :=
  ⟨_, List.getElem?_eq_getElem (of_decide_eq_true h)⟩

theorem readLfo_onlyAnswers {i : BitVec 2} (h : lfoIndexOk i = true) (f : Lfo → Word) (s : State) :
    OnlyAnswers s (readLfo i f s) := by
  obtain ⟨x, hx⟩ := s.lfos.exists_get h
  rw [readLfo, hx]
  exact respond_onlyAnswers (f x) s

theorem readVoice_onlyAnswers {s : State} {v : BitVec 4} (h : voiceIndexOk s.voices.length v = true)
    (f : Voice → Word) : OnlyAnswers s (readVoice v f s) := by
  obtain ⟨x, hx⟩ := exists_voice h
  rw [readVoice, hx]
  exact respond_onlyAnswers (f x) s

/-- Settles O49, by the shared operation each read is; well-formedness excludes the unmapped LFO and voice blocks. -/
theorem validReadsHaveNoSideEffect : Obligations.ValidReadsHaveNoSideEffect := by
  intro i s hread hwf
  cases i with
  | rdId | rdConfig | rdCtrl | rdCmd | rdStatus | rdSampleCount | rdTrig | rdOutL | rdOutR | rdDlSel | rdDlData
  | rdVibDepth | rdTremDepth | rdToneDepth | rdRevFb | rdRevMix | rdDrive | rdMakeup | rdVoiceSum | rdDcOut | rdRevOut =>
    exact respond_onlyAnswers _ s
  | rdLfoFreq | rdLfoPhase | rdLfoOut | rdLfoCos => exact readLfo_onlyAnswers hwf _ s
  | rdVFreq | rdVDamp | rdVBright | rdVLen | rdVPos | rdVFilt | rdVOut | rdVSeed => exact readVoice_onlyAnswers hwf _
  | _ => cases hread

end Sys2Proof.Machine
end

section
/-! PROOFS. The register map read both ways (30_encoding.md R102 to R105): `regAt` finds a register exactly at its `addr`. -/

namespace Sys2Proof.Machine

/-- The register exists in a block with n voices (R104, R105). -/
def Reg.existsIn (n : Nat) : Reg → Bool
  | .lfo _ i => lfoIndexOk i
  | .voice _ v => voiceIndexOk n v
  | _ => true

theorem lfoIndexOk_iff {i : BitVec 2} : lfoIndexOk i = true ↔ i.toNat < 3 := by
  rcases bitVec2_cases i with rfl | rfl | rfl | rfl <;> decide

theorem voiceIndexOk_iff {n : Nat} {v : BitVec 4} : voiceIndexOk n v = true ↔ v.toNat < n := decide_eq_true_iff

/-! ### The tables -/

theorem mem_of_lookup_eq_some {β : Type} {l : List (Nat × β)} {k : Nat} {b : β} (h : l.lookup k = some b) :
    (k, b) ∈ l := by
  obtain ⟨l₁, l₂, rfl, -⟩ := List.lookup_eq_some_iff.1 h
  simp

theorem globalTable_addr : ∀ e ∈ globalTable, e.2.addr.toNat = e.1 := by decide

theorem globalTable_exists (n : Nat) : ∀ e ∈ globalTable, e.2.existsIn n = true := by
  simp [globalTable, Reg.existsIn]

theorem lfoTable_lookup_iff {k : Nat} {r : LfoReg} : lfoTable.lookup k = some r ↔ k = r.roff := by
  constructor
  · intro h
    have hroff : ∀ e ∈ lfoTable, e.1 = e.2.roff := by decide
    exact hroff _ (mem_of_lookup_eq_some h)
  · rintro rfl
    cases r <;> rfl

theorem voiceTable_lookup_iff {k : Nat} {r : VoiceReg} : voiceTable.lookup k = some r ↔ k = r.roff := by
  constructor
  · intro h
    have hroff : ∀ e ∈ voiceTable, e.1 = e.2.roff := by decide
    exact hroff _ (mem_of_lookup_eq_some h)
  · rintro rfl
    cases r <;> rfl

/-! ### Addresses -/

theorem LfoReg.roff_lt (r : LfoReg) : r.roff < 16 := by cases r <;> decide

theorem VoiceReg.roff_lt (r : VoiceReg) : r.roff < 32 := by cases r <;> decide

theorem LfoReg.roff_mod (r : LfoReg) : r.roff % 4 = 0 := by cases r <;> rfl

theorem VoiceReg.roff_mod (r : VoiceReg) : r.roff % 4 = 0 := by cases r <;> rfl

theorem Reg.lfo_addr_toNat (r : LfoReg) (i : BitVec 2) :
    (Reg.lfo r i).addr.toNat = 0x100 + 16 * i.toNat + r.roff := by
  have hr := r.roff_lt
  rw [Reg.addr, BitVec.toNat_ofNat]
  omega

theorem Reg.voice_addr_toNat (r : VoiceReg) (v : BitVec 4) :
    (Reg.voice r v).addr.toNat = 0x200 + 32 * v.toNat + r.roff := by
  have hr := r.roff_lt
  rw [Reg.addr, BitVec.toNat_ofNat]
  omega

theorem misaligned_eq_false_iff {a : BitVec 12} : misaligned a = false ↔ a.toNat % 4 = 0 := by
  rw [misaligned, bne_eq_false_iff_eq, ← BitVec.toNat_inj, BitVec.extractLsb'_toNat]
  simp

theorem Reg.addr_aligned (g : Reg) : misaligned g.addr = false := by
  cases g with
  | lfo r i =>
    have hr := r.roff_mod
    rw [misaligned_eq_false_iff, Reg.lfo_addr_toNat]
    omega
  | voice r v =>
    have hr := r.roff_mod
    rw [misaligned_eq_false_iff, Reg.voice_addr_toNat]
    omega
  | _ => rfl

/-! ### The register at an address -/

/-- Every register that exists is mapped at its address. -/
theorem regAt_addr {n : Nat} {g : Reg} (hg : g.existsIn n = true) : regAt n g.addr = some g := by
  cases g with
  | lfo r i =>
    have hr := r.roff_lt
    have hi := lfoIndexOk_iff.1 hg
    have hoff : (0x100 + 16 * i.toNat + r.roff) % 16 = r.roff := by omega
    have hidx : (0x100 + 16 * i.toNat + r.roff) / 16 % 4 = i.toNat := by omega
    simp only [regAt, Reg.lfo_addr_toNat, hoff, hidx, lfoTable_lookup_iff.2 rfl, BitVec.ofNat_toNat,
      BitVec.setWidth_eq, Option.map_some]
    rw [if_neg (by omega), if_pos (by omega)]
  | voice r v =>
    have hr := r.roff_lt
    have hv := voiceIndexOk_iff.1 hg
    have hoff : (0x200 + 32 * v.toNat + r.roff) % 32 = r.roff := by omega
    have hidx : (0x200 + 32 * v.toNat + r.roff) / 32 % 16 = v.toNat := by omega
    simp only [regAt, Reg.voice_addr_toNat, hoff, hidx, voiceTable_lookup_iff.2 rfl, BitVec.ofNat_toNat,
      BitVec.setWidth_eq, Option.map_some, if_pos hv]
    rw [if_neg (by omega), if_neg (by omega), if_neg (by omega), if_pos (by omega)]
  | _ => rfl

/-- No other address maps it. -/
theorem addr_of_regAt {n : Nat} {a : BitVec 12} {g : Reg} (h : regAt n a = some g) :
    a = g.addr ∧ g.existsIn n = true := by
  simp only [regAt] at h
  split_ifs at h with hglobal hlfo hgap hvoice hn
  case pos =>
    have hmem := mem_of_lookup_eq_some h
    exact ⟨BitVec.eq_of_toNat_eq (globalTable_addr _ hmem).symm, globalTable_exists n _ hmem⟩
  case pos =>
    obtain ⟨r, hr, rfl⟩ := Option.map_eq_some_iff.1 h
    have hoff := lfoTable_lookup_iff.1 hr
    refine ⟨BitVec.eq_of_toNat_eq ?_, lfoIndexOk_iff.2 ?_⟩
    · rw [Reg.lfo_addr_toNat, BitVec.toNat_ofNat]
      omega
    · rw [BitVec.toNat_ofNat]
      omega
  case pos =>
    obtain ⟨r, hr, rfl⟩ := Option.map_eq_some_iff.1 h
    have hoff := voiceTable_lookup_iff.1 hr
    refine ⟨BitVec.eq_of_toNat_eq ?_, voiceIndexOk_iff.2 ?_⟩
    · rw [Reg.voice_addr_toNat, BitVec.toNat_ofNat]
      omega
    · rw [BitVec.toNat_ofNat]
      omega

end Sys2Proof.Machine
end

section
/-! PROOFS. Decoding and encoding a bus transaction (30_encoding.md R100, R108): the fields of a header, and what `decode`
answers for an invalid transaction, a read and a write. -/

namespace Sys2Proof.Machine

/-! ### Headers -/

@[simp] theorem hdrWrite_mkHdr (w : Bool) (r : BitVec 3) (a : BitVec 12) : hdrWrite (mkHdr w r a) = w := by
  simp only [hdrWrite, mkHdr, BitVec.getLsbD_append]
  simp

@[simp] theorem hdrAddr_mkHdr (w : Bool) (r : BitVec 3) (a : BitVec 12) : hdrAddr (mkHdr w r a) = a :=
  BitVec.extractLsb'_append_eq_right

/-- A header is made of its three fields. -/
theorem mkHdr_fields (h : BitVec 16) : mkHdr (hdrWrite h) (hdrReserved h) (hdrAddr h) = h := by
  refine BitVec.eq_of_getLsbD_eq fun k hk => ?_
  simp only [mkHdr, hdrWrite, hdrReserved, hdrAddr, BitVec.getLsbD_append, BitVec.getLsbD_extractLsb',
    BitVec.getLsbD_ofBool]
  split_ifs with haddr hrsv
  · simp [haddr]
  · simp [hrsv, show 12 + (k - 12) = k by omega]
  · simp [show k = 15 by omega]

/-- The header of a read is the address, zero-extended. -/
theorem mkHdr_read_toNat (a : BitVec 12) : (mkHdr false 0#3 a).toNat = a.toNat := by
  show (0#4 ++ a).toNat = a.toNat
  rw [BitVec.toNat_append]
  simp

/-! ### The three outcomes of `decode` -/

variable {n : Nat} {h : BitVec 16}

theorem decode_of_isInvalid (hinv : isInvalid n (hdrReserved h) (hdrAddr h) = true) (d : Word) :
    decode n (.bus h d) = .invalid (hdrWrite h) (hdrReserved h) (hdrAddr h) d := by
  by_cases hrsv : hdrReserved h = 0#3
  · by_cases halign : misaligned (hdrAddr h) = true
    · simp [decode, decodeBus, halign]
    · have hnone : regAt n (hdrAddr h) = none := by simpa [isInvalid, hrsv, halign] using hinv
      simp [decode, decodeBus, hnone]
  · simp [decode, decodeBus, hrsv]

/-- A register that is found is aligned, so the transaction reaches it when the reserved bits are 0. -/
theorem decode_of_regAt {g : Reg} (hrsv : hdrReserved h = 0#3) (hg : regAt n (hdrAddr h) = some g) (d : Word) :
    decode n (.bus h d) = if hdrWrite h then writeOf (hdrAddr h) d g else readOf g := by
  have halign : misaligned (hdrAddr h) = false := (addr_of_regAt hg).1 ▸ g.addr_aligned
  simp [decode, decodeBus, hrsv, halign, hg]

theorem isInvalid_eq_false_of_regAt {a : BitVec 12} {g : Reg} (hg : regAt n a = some g) :
    isInvalid n 0#3 a = false := by
  have halign : misaligned a = false := (addr_of_regAt hg).1 ▸ g.addr_aligned
  simp [isInvalid, halign, hg]

/-- A transaction is Invalid, or it reaches a register. -/
theorem isInvalid_or_regAt (n : Nat) (h : BitVec 16) :
    isInvalid n (hdrReserved h) (hdrAddr h) = true ∨
      hdrReserved h = 0#3 ∧ ∃ g, regAt n (hdrAddr h) = some g := by
  cases hg : regAt n (hdrAddr h) with
  | none => exact .inl (by simp [isInvalid, hg])
  | some g =>
    by_cases hrsv : hdrReserved h = 0#3
    · exact .inr ⟨hrsv, g, rfl⟩
    · exact .inl (by simp [isInvalid, hrsv])

/-- A read of a register that exists is its RD_ row, whatever DATA is. -/
theorem decode_read {g : Reg} (hg : g.existsIn n = true) (d : Word) :
    decode n (.bus (mkHdr false 0#3 g.addr) d) = readOf g := by
  rw [decode_of_regAt (g := g) (by simp) (by simpa using regAt_addr hg)]
  simp

theorem decode_readEvent {g : Reg} (hg : g.existsIn n = true) : decode n (readEvent g) = readOf g := decode_read hg _

/-- A write of a register that exists is the row that `writeOf` names. -/
theorem decode_writeEvent {g : Reg} (hg : g.existsIn n = true) (d : Word) :
    decode n (writeEvent g d) = writeOf g.addr d g := by
  rw [writeEvent, decode_of_regAt (g := g) (by simp) (by simpa using regAt_addr hg)]
  simp

/-! ### The rows of a register -/

theorem writeOf_of_readOnly {g : Reg} (hg : g.readOnly = true) (a : BitVec 12) (d : Word) :
    writeOf a d g = .roWrite a d := by
  cases g with
  | lfo r i => cases r with
    | freq => cases hg
    | _ => rfl
  | voice r v => cases r with
    | freq | damp | bright | seed => cases hg
    | _ => rfl
  | ctrl | cmd | status | trig | dlSel | vibDepth | tremDepth | toneDepth | revFb | revMix | drive | makeup => cases hg
  | _ => rfl

theorem cmdOf_of_reserved {d : Word} (hd : 3 < d.toNat) : cmdOf d = .cmdReserved d := by
  unfold cmdOf
  split
  case h_5 => rfl
  all_goals omega

/-- The write to CMD of any word but the four commands is the reserved one. -/
theorem cmdOf_cases (d : Word) :
    d = 0#32 ∧ cmdOf d = .cmdNop ∨ d = 1#32 ∧ cmdOf d = .cmdCommit ∨ d = 2#32 ∧ cmdOf d = .cmdTick ∨
      d = 3#32 ∧ cmdOf d = .cmdClear ∨ reservedCmd d = true ∧ cmdOf d = .cmdReserved d := by
  by_cases hd : 3 < d.toNat
  · exact .inr (.inr (.inr (.inr ⟨decide_eq_true hd, cmdOf_of_reserved hd⟩)))
  · have hsmall : d = 0#32 ∨ d = 1#32 ∨ d = 2#32 ∨ d = 3#32 := by bv_omega
    rcases hsmall with rfl | rfl | rfl | rfl <;> simp [cmdOf]

theorem encode_cmdOf (d : Word) : encode (cmdOf d) = writeEvent .cmd d := by
  rcases cmdOf_cases d with ⟨rfl, h⟩ | ⟨rfl, h⟩ | ⟨rfl, h⟩ | ⟨rfl, h⟩ | ⟨-, h⟩ <;> rw [h] <;> rfl

theorem cmdOf_wf (n : Nat) (d : Word) : (cmdOf d).wf n = true := by
  rcases cmdOf_cases d with ⟨-, h⟩ | ⟨-, h⟩ | ⟨-, h⟩ | ⟨-, h⟩ | ⟨hd, h⟩ <;> rw [h]
  case inr.inr.inr.inr => exact hd
  all_goals rfl

theorem encode_readOf (g : Reg) : encode (readOf g) = readEvent g := by
  cases g with
  | lfo r i => cases r <;> rfl
  | voice r v => cases r <;> rfl
  | _ => rfl

theorem encode_writeOf (d : Word) (g : Reg) : encode (writeOf g.addr d g) = writeEvent g d := by
  cases g with
  | cmd => exact encode_cmdOf d
  | lfo r i => cases r <;> rfl
  | voice r v => cases r <;> rfl
  | _ => rfl

theorem readOf_wf (n : Nat) (g : Reg) : (readOf g).wf n = g.existsIn n := by
  cases g with
  | lfo r i => cases r <;> rfl
  | voice r v => cases r <;> rfl
  | _ => rfl

theorem writeOf_wf {g : Reg} (hg : g.existsIn n = true) (d : Word) : (writeOf g.addr d g).wf n = true := by
  have hro : g.readOnly = true → readOnlyAt n g.addr = true := fun h => by simpa [readOnlyAt, regAt_addr hg] using h
  cases g with
  | cmd => exact cmdOf_wf n d
  | lfo r i => cases r with
    | freq => exact hg
    | _ => exact hro rfl
  | voice r v => cases r with
    | freq | damp | bright | seed => exact hg
    | _ => exact hro rfl
  | ctrl | status | trig | dlSel | vibDepth | tremDepth | toneDepth | revFb | revMix | drive | makeup => rfl
  | _ => exact hro rfl

end Sys2Proof.Machine
end

section
/-! PROOFS. The decoder and the encoder are inverse to each other, and the order of the decoder's checks
(30_encoding.md R100 to R108). -/

namespace Sys2Proof.Machine

/-- Settles O1: a read or write row of a register that exists comes back through that register, and the two rows without
one, RO_WRITE and INVALID, through the fields of their header. -/
theorem decodeInvertsEncode : Obligations.DecodeInvertsEncode := by
  intro n i hwf
  cases i with
  | rdId | rdConfig | rdCtrl | rdCmd | rdStatus | rdSampleCount | rdTrig | rdOutL | rdOutR | rdDlSel | rdDlData
  | rdVibDepth | rdTremDepth | rdToneDepth | rdRevFb | rdRevMix | rdDrive | rdMakeup | rdVoiceSum | rdDcOut | rdRevOut =>
    exact decode_readEvent rfl
  | rdLfoFreq | rdLfoPhase | rdLfoOut | rdLfoCos => exact decode_readEvent (g := .lfo _ _) hwf
  | rdVFreq | rdVDamp | rdVBright | rdVLen | rdVPos | rdVFilt | rdVOut | rdVSeed =>
    exact decode_readEvent (g := .voice _ _) hwf
  | wrCtrl d | wrStatus d | wrTrig d | wrDlSel d | wrVibDepth d | wrTremDepth d | wrToneDepth d | wrRevFb d
  | wrRevMix d | wrDrive d | wrMakeup d =>
    exact decode_writeEvent rfl d
  | cmdNop | cmdCommit | cmdTick | cmdClear => exact decode_writeEvent (g := .cmd) rfl _
  | cmdReserved d => exact (decode_writeEvent (g := .cmd) rfl d).trans (cmdOf_of_reserved (of_decide_eq_true hwf))
  | wrLfoFreq i d => exact decode_writeEvent (g := .lfo .freq i) hwf d
  | wrVFreq v d | wrVDamp v d | wrVBright v d | wrVSeed v d => exact decode_writeEvent (g := .voice _ v) hwf d
  | roWrite a d =>
    obtain ⟨g, hg, hro⟩ := (Option.any_eq_true ..).1 hwf
    obtain ⟨rfl, hexists⟩ := addr_of_regAt hg
    exact (decode_writeEvent hexists d).trans (writeOf_of_readOnly hro _ d)
  | invalid w r a d =>
    have hinv : isInvalid n r a = true := hwf
    rw [encode, decode_of_isInvalid (by simpa using hinv)]
    simp
  | strobe | strobeDrop | reset => rfl

/-- Settles O2: an Invalid transaction keeps all its fields, and any other is the read or the write event of the register
at its address. -/
theorem encodeInvertsDecode : Obligations.EncodeInvertsDecode := by
  intro n h d
  rcases isInvalid_or_regAt n h with hinv | ⟨hrsv, g, hg⟩
  · rw [decode_of_isInvalid hinv, hinv, Bool.or_true, if_pos rfl, encode, mkHdr_fields]
    exact ⟨hinv, rfl⟩
  · obtain ⟨haddr, hexists⟩ := addr_of_regAt hg
    have hvalid : isInvalid n (hdrReserved h) (hdrAddr h) = false := hrsv ▸ isInvalid_eq_false_of_regAt hg
    have hfields : mkHdr (hdrWrite h) 0#3 g.addr = h := by rw [← hrsv, ← haddr, mkHdr_fields]
    rw [decode_of_regAt hrsv hg, hvalid, haddr]
    cases hw : hdrWrite h with
    | true =>
      rw [hw] at hfields
      exact ⟨writeOf_wf hexists d, (encode_writeOf d g).trans (by rw [writeEvent, hfields]; rfl)⟩
    | false =>
      rw [hw] at hfields
      exact ⟨(readOf_wf n g).trans hexists, (encode_readOf g).trans (by rw [readEvent, hfields]; rfl)⟩

/-- Settles O3: the first three checks are those of `isInvalid`, and the rest is `writeOf` and `readOf`. -/
theorem decodeChecksInOrder : Obligations.DecodeChecksInOrder := by
  intro n h d w r a
  have hinvalid (hinv : isInvalid n r a = true) : decode n (.bus h d) = .invalid w r a d := decode_of_isInvalid hinv d
  refine ⟨fun hr => hinvalid ?rsv, fun _ halign => hinvalid ?align, fun _ _ hnone => hinvalid ?unmapped, ?mapped⟩
  case rsv => simp [isInvalid, hr]
  case align => simp [isInvalid, misaligned, halign]
  case unmapped => simp [isInvalid, hnone]
  case mapped =>
    intro g hr _ hg
    have hdecode : decode n (.bus h d) = if w then writeOf a d g else readOf g := decode_of_regAt hr hg d
    rw [hdecode]
    refine ⟨fun hw hro => ?readOnly, fun hw ha => ?cmd, fun hw _ _ => if_pos hw, fun hw => by simp [hw]⟩
    case readOnly => rw [if_pos hw, writeOf_of_readOnly hro]
    case cmd =>
      have hcmd : g = .cmd := Option.some_inj.1 (hg.symm.trans (ha ▸ regAt_addr (g := .cmd) rfl))
      rw [if_pos hw, hcmd]
      exact ⟨fun hd => hd ▸ rfl, fun hd => hd ▸ rfl, fun hd => hd ▸ rfl, fun hd => hd ▸ rfl, cmdOf_of_reserved⟩

/-- The ranges in which a register that exists has its address (R102 to R105). -/
theorem Reg.addr_range {n : Nat} {g : Reg} (hg : g.existsIn n = true) :
    g.addr.toNat < 0x02C ∨ (0x040 ≤ g.addr.toNat ∧ g.addr.toNat < 0x05C) ∨
      (0x060 ≤ g.addr.toNat ∧ g.addr.toNat < 0x06C) ∨ (0x100 ≤ g.addr.toNat ∧ g.addr.toNat < 0x130) ∨
      (0x200 ≤ g.addr.toNat ∧ g.addr.toNat < 0x400 ∧ (g.addr.toNat - 0x200) / 32 < n) := by
  cases g with
  | lfo r i =>
    have hr := r.roff_lt
    have hi := lfoIndexOk_iff.1 hg
    rw [Reg.lfo_addr_toNat]
    omega
  | voice r v =>
    have hr := r.roff_lt
    have hv := voiceIndexOk_iff.1 hg
    rw [Reg.voice_addr_toNat]
    omega
  | _ => simp [Reg.addr]

/-- Settles O4: a register found in one of these ranges would have its address outside them. -/
theorem reservedRangesAreInvalid : Obligations.ReservedRangesAreInvalid := by
  intro n h d a hrange
  refine decode_of_isInvalid ?_ d
  rcases isInvalid_or_regAt n h with hinv | ⟨-, g, hg⟩
  · exact hinv
  · obtain ⟨haddr, hexists⟩ := addr_of_regAt hg
    have ha : a = g.addr.toNat := congrArg BitVec.toNat haddr
    have hregs := Reg.addr_range hexists
    omega

/-- Settles O5, each word by the decoder's own evaluation. -/
theorem writtenWordsDecode : Obligations.WrittenWordsDecode := by
  unfold Obligations.WrittenWordsDecode
  decide

end Sys2Proof.Machine
end

section
/-! PROOFS. The reads of the LFO and voice blocks: their transactions and their answers (40_bus_interface.md R172 to R187). -/

namespace Sys2Proof.Machine

/-! ### The transactions of a block -/

theorem lfoReadHdr_eq (r : LfoReg) (i : BitVec 2) :
    0x0100#16 + 16#16 * i.setWidth 16 + BitVec.ofNat 16 r.roff = mkHdr false 0#3 (Reg.lfo r i).addr := by
  have hr := r.roff_lt
  refine BitVec.eq_of_toNat_eq ?_
  rw [mkHdr_read_toNat, Reg.lfo_addr_toNat]
  simp only [BitVec.toNat_add, BitVec.toNat_mul, BitVec.toNat_setWidth, BitVec.toNat_ofNat]
  omega

theorem voiceReadHdr_eq (r : VoiceReg) (v : BitVec 4) :
    0x0200#16 + 32#16 * v.setWidth 16 + BitVec.ofNat 16 r.roff = mkHdr false 0#3 (Reg.voice r v).addr := by
  have hr := r.roff_lt
  refine BitVec.eq_of_toNat_eq ?_
  rw [mkHdr_read_toNat, Reg.voice_addr_toNat]
  simp only [BitVec.toNat_add, BitVec.toNat_mul, BitVec.toNat_setWidth, BitVec.toNat_ofNat]
  omega

/-- The transaction at ROFF of an LFO that exists is the read of that register. -/
theorem decode_lfoRead (n : Nat) {i : BitVec 2} (hi : lfoIndexOk i = true) (r : LfoReg) (y : Word) :
    decode n (.bus (0x0100#16 + 16#16 * i.setWidth 16 + BitVec.ofNat 16 r.roff) y) = readOf (.lfo r i) := by
  rw [lfoReadHdr_eq, decode_read (g := .lfo r i) hi]

/-- The transaction at ROFF of a voice that exists is the read of that register. -/
theorem decode_voiceRead {n : Nat} {v : BitVec 4} (hv : voiceIndexOk n v = true) (r : VoiceReg) (y : Word) :
    decode n (.bus (0x0200#16 + 32#16 * v.setWidth 16 + BitVec.ofNat 16 r.roff) y) = readOf (.voice r v) := by
  rw [voiceReadHdr_eq, decode_read (g := .voice r v) hv]

/-! ### The answers -/

theorem readLfo_of_get {s : State} {i : BitVec 2} {x : Lfo} (hx : s.lfos.get i = some x) (f : Lfo → Word) :
    readLfo i f s = .next { s with portValid := false, rdata := some (f x) } := by
  rw [readLfo, hx]
  rfl

theorem readVoice_of_getElem? {s : State} {v : BitVec 4} {x : Voice} (hx : s.voices[v.toNat]? = some x)
    (f : Voice → Word) : readVoice v f s = .next { s with portValid := false, rdata := some (f x) } := by
  rw [readVoice, hx]
  rfl

theorem lfoIndexOk_of_get {b : LfoBank} {i : BitVec 2} {x : Lfo} (hx : b.get i = some x) : lfoIndexOk i = true := by
  rw [lfoIndexOk, bne_iff_ne]
  rintro rfl
  simp at hx

theorem voiceIndexOk_of_getElem? {vs : List Voice} {v : BitVec 4} {x : Voice} (hx : vs[v.toNat]? = some x) :
    voiceIndexOk vs.length v = true :=
  voiceIndexOk_iff.2 (List.getElem?_eq_some_iff.1 hx).1

theorem lfoWave_eq_ite (c : Config) (i : BitVec 2) :
    lfoWave c i = if i = 0#2 then c.wave0 else if i = 1#2 then c.wave1 else c.wave2 := by
  rcases bitVec2_cases i with rfl | rfl | rfl | rfl <;> rfl

/-- Settles O12, register by register of the block. -/
theorem lfoReadsAnswer : Obligations.LfoReadsAnswer := by
  intro n y s i x hx
  have hdecode := decode_lfoRead n (lfoIndexOk_of_get hx)
  have hread := readLfo_of_get hx
  refine ⟨⟨hdecode .freq y, hread _⟩, ⟨hdecode .phase y, hread _⟩, ⟨hdecode .out y, ?out⟩, ⟨hdecode .cos y, hread _⟩⟩
  case out =>
    rw [← lfoWave_eq_ite]
    exact hread _

/-- Settles O13, register by register of the block. -/
theorem voiceReadsAnswer : Obligations.VoiceReadsAnswer := by
  intro y s v x hx
  have hdecode := decode_voiceRead (voiceIndexOk_of_getElem? hx)
  have hread := readVoice_of_getElem? hx
  exact ⟨⟨hdecode .freq y, hread _⟩, ⟨hdecode .damp y, hread _⟩, ⟨hdecode .bright y, hread _⟩, ⟨hdecode .len y, hread _⟩,
    ⟨hdecode .pos y, hread _⟩, ⟨hdecode .filt y, hread _⟩, ⟨hdecode .out y, hread _⟩, ⟨hdecode .seed y, hread _⟩⟩

end Sys2Proof.Machine
end

section
/-! PROOFS. The transactions of register writes, and the two that store nothing: a write to a read-only register and an
invalid access (40_bus_interface.md R133, R134). -/

namespace Sys2Proof.Machine

/-! ### The transactions of writes -/

/-- The header of a write is the address with bit 15 set. -/
theorem mkHdr_write_eq (a : BitVec 12) : mkHdr true 0#3 a = 0x8000#16 + a.setWidth 16 := by
  refine BitVec.eq_of_toNat_eq ?_
  show (0x8#4 ++ a).toNat = _
  rw [BitVec.toNat_append, ← Nat.shiftLeft_add_eq_or_of_lt a.isLt]
  simp only [BitVec.toNat_add, BitVec.toNat_setWidth, BitVec.toNat_ofNat]
  omega

theorem Reg.lfo_addr_eq (r : LfoReg) (i : BitVec 2) :
    (Reg.lfo r i).addr = 0x100#12 + 16#12 * i.setWidth 12 + BitVec.ofNat 12 r.roff := by
  refine BitVec.eq_of_toNat_eq ?_
  have hr := r.roff_lt
  rw [Reg.lfo_addr_toNat]
  simp only [BitVec.toNat_add, BitVec.toNat_mul, BitVec.toNat_setWidth, BitVec.toNat_ofNat]
  omega

theorem Reg.voice_addr_eq (r : VoiceReg) (v : BitVec 4) :
    (Reg.voice r v).addr = 0x200#12 + 32#12 * v.setWidth 12 + BitVec.ofNat 12 r.roff := by
  refine BitVec.eq_of_toNat_eq ?_
  have hr := r.roff_lt
  rw [Reg.voice_addr_toNat]
  simp only [BitVec.toNat_add, BitVec.toNat_mul, BitVec.toNat_setWidth, BitVec.toNat_ofNat]
  omega

theorem lfoWriteHdr_eq (r : LfoReg) (i : BitVec 2) :
    0x8100#16 + 16#16 * i.setWidth 16 + BitVec.ofNat 16 r.roff = mkHdr true 0#3 (Reg.lfo r i).addr := by
  have hr := r.roff_lt
  refine BitVec.eq_of_toNat_eq ?_
  rw [mkHdr_write_eq]
  simp only [BitVec.toNat_add, BitVec.toNat_mul, BitVec.toNat_setWidth, BitVec.toNat_ofNat, Reg.lfo_addr_toNat]
  omega

theorem voiceWriteHdr_eq (r : VoiceReg) (v : BitVec 4) :
    0x8200#16 + 32#16 * v.setWidth 16 + BitVec.ofNat 16 r.roff = mkHdr true 0#3 (Reg.voice r v).addr := by
  have hr := r.roff_lt
  refine BitVec.eq_of_toNat_eq ?_
  rw [mkHdr_write_eq]
  simp only [BitVec.toNat_add, BitVec.toNat_mul, BitVec.toNat_setWidth, BitVec.toNat_ofNat, Reg.voice_addr_toNat]
  omega

/-- The write transaction at ROFF of an LFO that exists is the row that `writeOf` names. -/
theorem decode_lfoWrite (n : Nat) {i : BitVec 2} (hi : lfoIndexOk i = true) (r : LfoReg) (d : Word) :
    decode n (.bus (0x8100#16 + 16#16 * i.setWidth 16 + BitVec.ofNat 16 r.roff) d) =
      writeOf (Reg.lfo r i).addr d (.lfo r i) := by
  rw [lfoWriteHdr_eq]
  exact decode_writeEvent (g := .lfo r i) hi d

/-- The write transaction at ROFF of a voice that exists is the row that `writeOf` names. -/
theorem decode_voiceWrite {n : Nat} {v : BitVec 4} (hv : voiceIndexOk n v = true) (r : VoiceReg) (d : Word) :
    decode n (.bus (0x8200#16 + 32#16 * v.setWidth 16 + BitVec.ofNat 16 r.roff) d) =
      writeOf (Reg.voice r v).addr d (.voice r v) := by
  rw [voiceWriteHdr_eq]
  exact decode_writeEvent (g := .voice r v) hv d

/-- A write to a read-only address is RO_WRITE. -/
theorem decode_readOnlyWrite {n : Nat} {a : BitVec 12} (ha : readOnlyAt n a = true) (d : Word) :
    decode n (.bus (0x8000#16 + a.setWidth 16) d) = .roWrite a d := by
  rw [← mkHdr_write_eq]
  exact decodeInvertsEncode n (.roWrite a d) ha

/-! ### Read-only registers and invalid accesses -/

theorem readOnlyAt_of_readOnly {n : Nat} {g : Reg} (hg : g.existsIn n = true) (hro : g.readOnly = true) :
    readOnlyAt n g.addr = true := by
  rw [readOnlyAt, regAt_addr hg, Option.any_some, hro]

/-- The global registers of R133's list. -/
def readOnlyGlobals : List Reg := [.id, .config, .sampleCount, .outL, .outR, .dlData, .voiceSum, .dcOut, .revOut]

theorem readOnlyAt_of_readOnlyGlobals (n : Nat) : ∀ g ∈ readOnlyGlobals, readOnlyAt n g.addr = true := by
  have hro : ∀ g ∈ readOnlyGlobals, g.existsIn n = true ∧ g.readOnly = true := by
    simp [readOnlyGlobals, Reg.existsIn, Reg.readOnly]
  exact fun g hg => readOnlyAt_of_readOnly (hro g hg).1 (hro g hg).2

/-- Settles O20: every address of R133's list is that of a read-only register. -/
theorem readOnlyWriteSetsBusErr : Obligations.ReadOnlyWriteSetsBusErr := by
  refine ⟨fun _ _ _ => rfl, fun n d => ⟨fun a ha => decode_readOnlyWrite ?globals d,
    fun i hi o ho => decode_readOnlyWrite ?lfos d, fun v hv o ho => decode_readOnlyWrite ?voices d⟩⟩
  case globals =>
    obtain ⟨g, hg, rfl⟩ : ∃ g ∈ readOnlyGlobals, g.addr = a := List.mem_map.1 ha
    exact readOnlyAt_of_readOnlyGlobals n g hg
  case lfos =>
    obtain ⟨j, hj, rfl⟩ : ∃ j ∈ [0#2, 1#2, 2#2], j.setWidth 12 = i := List.mem_map.1 hi
    obtain ⟨r, hr, rfl⟩ : ∃ r ∈ [LfoReg.phase, .out, .cos], BitVec.ofNat 12 r.roff = o := List.mem_map.1 ho
    have hexists : ∀ j ∈ [0#2, 1#2, 2#2], lfoIndexOk j = true := by decide
    have hro : ∀ r ∈ [LfoReg.phase, .out, .cos], (Reg.lfo r j).readOnly = true := by simp [Reg.readOnly]
    rw [← Reg.lfo_addr_eq]
    exact readOnlyAt_of_readOnly (g := .lfo r j) (hexists j hj) (hro r hr)
  case voices =>
    obtain ⟨r, hr, rfl⟩ : ∃ r ∈ [VoiceReg.len, .pos, .filt, .out], BitVec.ofNat 12 r.roff = o := List.mem_map.1 ho
    have hro : ∀ r ∈ [VoiceReg.len, .pos, .filt, .out], (Reg.voice r v).readOnly = true := by simp [Reg.readOnly]
    rw [← Reg.voice_addr_eq]
    exact readOnlyAt_of_readOnly (g := .voice r v) (voiceIndexOk_iff.2 hv) (hro r hr)

/-- Settles O21: both are the shared `invalidAccess`, which sets bit 0. -/
theorem invalidAccessSetsBusErr : Obligations.InvalidAccessSetsBusErr := fun _ _ _ _ => ⟨rfl, rfl⟩

end Sys2Proof.Machine
end

section
/-! PROOFS. What a write to the LFO and voice blocks and to the global shadowed parameters stores, and that it reads back
(40_bus_interface.md R132, R156 to R188). -/

namespace Sys2Proof.Machine

theorem writeLfo_of_get {s : State} {i : BitVec 2} {x : Lfo} (hx : s.lfos.get i = some x) (f : Lfo → Lfo) :
    writeLfo i f s = .next { s with portValid := false, rdata := none, lfos := s.lfos.set i (f x) } := by
  rw [writeLfo, hx]
  rfl

theorem writeVoice_of_getElem? {s : State} {v : BitVec 4} {x : Voice} (hx : s.voices[v.toNat]? = some x)
    (f : Voice → Voice) :
    writeVoice v f s = .next { s with portValid := false, rdata := none, voices := s.voices.set v.toNat (f x) } := by
  rw [writeVoice, hx]
  rfl

/-- A write changes the one LFO, and a read then sees the change. -/
theorem writeLfo_stores {s : State} {i : BitVec 2} {x : Lfo} (hx : s.lfos.get i = some x) (f : Lfo → Lfo)
    (g : Lfo → Word) :
    ∃ b : LfoBank, writeLfo i f s = .next { s with portValid := false, rdata := none, lfos := b } ∧
      b.get i = some (f x) ∧ (∀ j, j ≠ i → b.get j = s.lfos.get j) ∧
      readLfo i g { s with portValid := false, rdata := none, lfos := b } =
        .next { s with portValid := false, rdata := some (g (f x)), lfos := b } := by
  have hsame : (s.lfos.set i (f x)).get i = some (f x) := by rw [LfoBank.get_set, if_pos rfl, hx, Option.map_some]
  have hother (j : BitVec 2) (hj : j ≠ i) : (s.lfos.set i (f x)).get j = s.lfos.get j := by
    rw [LfoBank.get_set, if_neg hj]
  exact ⟨_, writeLfo_of_get hx f, hsame, hother, readLfo_of_get hsame g⟩

/-- A write changes the one voice, and a read then sees the change. -/
theorem writeVoice_stores {s : State} {v : BitVec 4} {x : Voice} (hx : s.voices[v.toNat]? = some x)
    (f : Voice → Voice) (g : Voice → Word) :
    ∃ vs : List Voice, writeVoice v f s = .next { s with portValid := false, rdata := none, voices := vs } ∧
      vs[v.toNat]? = some (f x) ∧ (∀ k, k ≠ v.toNat → vs[k]? = s.voices[k]?) ∧
      readVoice v g { s with portValid := false, rdata := none, voices := vs } =
        .next { s with portValid := false, rdata := some (g (f x)), voices := vs } := by
  have hsame : (s.voices.set v.toNat (f x))[v.toNat]? = some (f x) :=
    List.getElem?_set_self (List.getElem?_eq_some_iff.1 hx).1
  exact ⟨_, writeVoice_of_getElem? hx f, hsame, fun k hk => List.getElem?_set_ne hk.symm, readVoice_of_getElem? hsame g⟩

/-- Settles O14: a global shadow is a field of the state, and the blocks store by `writeLfo` and `writeVoice`. -/
theorem shadowWritesStoreRaw : Obligations.ShadowWritesStoreRaw := by
  refine ⟨?globals, ?lfos, ?voices⟩
  case globals =>
    intro n s d g stores
    have hdecode {r : Reg} (hr : r.existsIn n = true) := decode_writeEvent hr d
    exact ⟨⟨hdecode (r := .vibDepth) rfl, rfl, rfl⟩, ⟨hdecode (r := .tremDepth) rfl, rfl, rfl⟩,
      ⟨hdecode (r := .toneDepth) rfl, rfl, rfl⟩, ⟨hdecode (r := .revFb) rfl, rfl, rfl⟩,
      ⟨hdecode (r := .revMix) rfl, rfl, rfl⟩, ⟨hdecode (r := .drive) rfl, rfl, rfl⟩,
      ⟨hdecode (r := .makeup) rfl, rfl, rfl⟩⟩
  case lfos =>
    intro n s i x d hx
    have hdecode := decode_lfoWrite n (lfoIndexOk_of_get hx) .freq d
    rw [show BitVec.ofNat 16 LfoReg.freq.roff = 0#16 from rfl, BitVec.add_zero] at hdecode
    exact ⟨hdecode, writeLfo_stores hx _ _⟩
  case voices =>
    intro s v x d hx stores
    have hdecode (r : VoiceReg) := decode_voiceWrite (voiceIndexOk_of_getElem? hx) r d
    exact ⟨⟨hdecode .freq, writeVoice_stores hx _ _⟩, ⟨hdecode .damp, writeVoice_stores hx _ _⟩,
      ⟨hdecode .bright, writeVoice_stores hx _ _⟩⟩

/-- Settles O19: SEED is written in the voice itself, through `seedWritten`. -/
theorem seedWriteStoresNonzero : Obligations.SeedWriteStoresNonzero := by
  intro s v x d hx
  have hdecode := decode_voiceWrite (voiceIndexOk_of_getElem? hx) .seed d
  have hhdr : 0x821C#16 + 32#16 * v.setWidth 16 =
      0x8200#16 + 32#16 * v.setWidth 16 + BitVec.ofNat 16 VoiceReg.seed.roff := by
    rw [add_right_comm]
    rfl
  rw [hhdr]
  exact ⟨hdecode, writeVoice_stores hx _ _⟩

end Sys2Proof.Machine
end

section
/-! PROOFS. The reads and the plain writes of the global registers: their fields bit by bit, and their answers
(40_bus_interface.md R135 to R171). -/

namespace Sys2Proof.Machine

/-! ### CONFIG, CTRL and STATUS -/

/-- Each field of a word laid out as CONFIG is: the fields below it are dropped one by one. -/
theorem extractLsb'_append_fields (cap : BitVec 16) (pad : BitVec 1) (lut : BitVec 4) (w2 w1 w0 : BitVec 2)
    (voices : BitVec 5) :
    let w := cap ++ pad ++ lut ++ w2 ++ w1 ++ w0 ++ voices
    w.extractLsb' 0 5 = voices ∧ w.extractLsb' 5 2 = w0 ∧ w.extractLsb' 7 2 = w1 ∧ w.extractLsb' 9 2 = w2 ∧
      w.extractLsb' 11 4 = lut ∧ w.extractLsb' 15 1 = pad ∧ w.extractLsb' 16 16 = cap := by
  intro w
  refine ⟨?_, ?_, ?_, ?_, ?_, ?_, ?_⟩ <;> unfold w
  case refine_7 =>
    iterate 5 rw [BitVec.extractLsb'_append_eq_of_le (by decide)]
    exact BitVec.extractLsb'_append_eq_left
  all_goals
    repeat rw [BitVec.extractLsb'_append_eq_of_le (by decide)]
    exact BitVec.extractLsb'_append_eq_right

/-- The fields of CONFIG (10_state.md R35). -/
theorem configWord_fields (c : Config) :
    (configWord c).extractLsb' 0 5 = BitVec.ofNat 5 c.nVoices ∧ (configWord c).extractLsb' 5 2 = waveCode c.wave0 ∧
      (configWord c).extractLsb' 7 2 = waveCode c.wave1 ∧ (configWord c).extractLsb' 9 2 = waveCode c.wave2 ∧
      (configWord c).extractLsb' 11 4 = BitVec.ofNat 4 c.log2Lut ∧ (configWord c).extractLsb' 15 1 = 0#1 ∧
      (configWord c).extractLsb' 16 16 = BitVec.ofNat 16 (dlCap c) :=
  extractLsb'_append_fields ..

theorem configWord_specInstance : configWord specInstance = 0x09605488#32 := rfl

theorem ctrlWritten_getLsbD (d : Word) {k : Nat} (hk : k < 32) :
    (ctrlWritten d).getLsbD k = if k < 7 then d.getLsbD k else decide (k = 7 ∨ k = 8) := by
  have hlow : ∀ k < 32, (0x0000007F#32).getLsbD k = decide (k < 7) := by decide
  have hone : ∀ k < 32, (0x00000180#32).getLsbD k = decide (k = 7 ∨ k = 8) := by decide
  rw [ctrlWritten, BitVec.getLsbD_or, BitVec.getLsbD_and, hlow k hk, hone k hk]
  split_ifs with h7
  · simp [h7, show ¬(k = 7 ∨ k = 8) by omega]
  · simp [h7]

/-- The mask of the three STATUS bits. -/
theorem statusMask_getLsbD : ∀ k < 32, (0x00000007#32).getLsbD k = decide (k < 3) := by decide

theorem statusRead_eq (w : Word) : statusRead w = (w.extractLsb' 0 3).setWidth 32 := by
  refine BitVec.eq_of_getLsbD_eq fun k hk => ?_
  rw [statusRead, BitVec.getLsbD_and, statusMask_getLsbD k hk, BitVec.getLsbD_setWidth, BitVec.getLsbD_extractLsb']
  simp [hk, Bool.and_comm]

theorem statusWritten_getLsbD (w d : Word) {k : Nat} (hk : k < 32) :
    (statusWritten w d).getLsbD k = (w.getLsbD k && !(decide (k < 3) && d.getLsbD k)) := by
  rw [statusWritten, BitVec.getLsbD_and, BitVec.getLsbD_not, BitVec.getLsbD_and, statusMask_getLsbD k hk,
    decide_eq_true hk, Bool.true_and, Bool.and_comm (d.getLsbD k)]

/-! ### TRIG -/

/-- The word of a list of voices that starts at bit k has the flag of voice j - k at bit j. -/
theorem trigWordFrom_getLsbD (vs : List Voice) (k : Nat) {j : Nat} (hj : j < 32) :
    (trigWordFrom vs k).getLsbD j = (decide (k ≤ j) && (vs[j - k]?).any Voice.trigPending) := by
  induction vs generalizing k with
  | nil => simp [trigWordFrom]
  | cons x xs ih =>
    have hhead : (if x.trigPending then 1#32 <<< k else 0).getLsbD j = (decide (j = k) && x.trigPending) := by
      cases x.trigPending with
      | false => simp
      | true =>
        simp only [if_true, BitVec.getLsbD_shiftLeft, BitVec.getLsbD_one, hj, Bool.and_true]
        by_cases hjk : j = k
        · simp [hjk]
        · simp [hjk]; omega
    rw [trigWordFrom, BitVec.getLsbD_or, hhead, ih]
    rcases Nat.lt_trichotomy j k with hlt | rfl | hgt
    · simp [show ¬k ≤ j by omega, show ¬k + 1 ≤ j by omega, show j ≠ k by omega]
    · simp
    · obtain ⟨m, rfl⟩ := Nat.exists_eq_add_of_lt hgt
      simp [show k + m + 1 ≠ k by omega, show k ≤ k + m + 1 by omega, show k + m + 1 - k = m + 1 by omega,
        show k + m + 1 - (k + 1) = m by omega]

theorem orTrigFrom_getElem? (d : Word) (vs : List Voice) (k j : Nat) :
    (orTrigFrom d vs k)[j]? =
      (vs[j]?).map fun x => { x with trigPending := x.trigPending || d.getLsbD (k + j) } := by
  induction vs generalizing k j with
  | nil => rfl
  | cons x xs ih =>
    cases j with
    | zero => rfl
    | succ j =>
      rw [orTrigFrom, List.getElem?_cons_succ, List.getElem?_cons_succ, ih, Nat.add_right_comm, Nat.add_assoc k]

/-! ### DL_SEL and DL_DATA -/

theorem dlSelBits_toNat (d : Word) : (dlSelBits d).toNat = d.toNat % 2 ^ 20 := by
  rw [dlSelBits, BitVec.toNat_and]
  exact Nat.and_two_pow_sub_one_eq_mod d.toNat 20

theorem dlSelVoice_eq (d : Word) : dlSelVoice d = d.toNat / 2 ^ 16 % 16 := by
  rw [dlSelVoice, BitVec.extractLsb'_toNat, Nat.shiftRight_eq_div_pow]

theorem dlSelIndex_eq (d : Word) : dlSelIndex d = d.toNat % 2 ^ 16 := by
  rw [dlSelIndex, BitVec.extractLsb'_toNat, Nat.shiftRight_zero]

theorem dlData_of_inRange {s : State} {x : Voice} (hx : s.voices[dlSelVoice s.dlSel]? = some x)
    (hk : dlSelIndex s.dlSel < dlCap s.cfg) : dlData s = Memory.read x.buf (dlSelIndex s.dlSel) := by
  rw [dlData, hx]
  exact if_pos hk

theorem dlData_of_outOfRange {s : State}
    (h : s.voices.length ≤ dlSelVoice s.dlSel ∨ dlCap s.cfg ≤ dlSelIndex s.dlSel) : dlData s = 0#32 := by
  unfold dlData
  split
  case h_1 x hx =>
    have hv := (List.getElem?_eq_some_iff.1 hx).1
    exact if_neg (by omega)
  case h_2 => rfl

/-! ### The statements -/

/-- Settles O7, register by register. -/
theorem globalReadsAnswer : Obligations.GlobalReadsAnswer := by
  intro n x s answers
  have hdecode {g : Reg} (hg : g.existsIn n = true) := decode_read hg x
  have hstatus : answers 0x0010#16 .rdStatus ((s.status.extractLsb' 0 3).setWidth 32) := by
    rw [← statusRead_eq]
    exact ⟨hdecode (g := .status) rfl, rfl⟩
  exact ⟨⟨hdecode (g := .id) rfl, rfl⟩, ⟨hdecode (g := .ctrl) rfl, rfl⟩, ⟨hdecode (g := .cmd) rfl, rfl⟩, hstatus,
    ⟨hdecode (g := .sampleCount) rfl, rfl⟩, ⟨hdecode (g := .outL) rfl, rfl⟩, ⟨hdecode (g := .outR) rfl, rfl⟩,
    ⟨hdecode (g := .dlSel) rfl, rfl⟩, ⟨hdecode (g := .voiceSum) rfl, rfl⟩, ⟨hdecode (g := .dcOut) rfl, rfl⟩,
    ⟨hdecode (g := .revOut) rfl, rfl⟩⟩

/-- Settles O8, register by register. -/
theorem globalShadowReadsAnswer : Obligations.GlobalShadowReadsAnswer := by
  intro n x s answers
  have hdecode {g : Reg} (hg : g.existsIn n = true) := decode_read hg x
  exact ⟨⟨hdecode (g := .vibDepth) rfl, rfl⟩, ⟨hdecode (g := .tremDepth) rfl, rfl⟩,
    ⟨hdecode (g := .toneDepth) rfl, rfl⟩, ⟨hdecode (g := .revFb) rfl, rfl⟩, ⟨hdecode (g := .revMix) rfl, rfl⟩,
    ⟨hdecode (g := .drive) rfl, rfl⟩, ⟨hdecode (g := .makeup) rfl, rfl⟩⟩

/-- Settles O9: CONFIG is laid out field by field. -/
theorem configReadsParameters : Obligations.ConfigReadsParameters := by
  refine ⟨fun n x => decode_read (g := .config) rfl x, fun s => ⟨configWord s.cfg, rfl, ?_⟩⟩
  obtain ⟨hvoices, hwave0, hwave1, hwave2, hlut, hzero, hcap⟩ := configWord_fields s.cfg
  exact ⟨hvoices, hwave0, hwave1, hwave2, hlut, hzero, hcap, fun hcfg => hcfg ▸ configWord_specInstance⟩

/-- Settles O10: the word of TRIG starts at bit 0. -/
theorem trigReadsPendingMask : Obligations.TrigReadsPendingMask := by
  refine ⟨fun n x => decode_read (g := .trig) rfl x, fun s => ⟨trigWord s.voices, rfl, fun k hk => ?_⟩⟩
  rw [trigWord, trigWordFrom_getLsbD s.voices 0 hk]
  simp

/-- Settles O11, by whether the selection is in range. -/
theorem dlDataReadsSelectedCell : Obligations.DlDataReadsSelectedCell := by
  refine ⟨fun n x => decode_read (g := .dlData) rfl x, fun s => ?_⟩
  intro v k
  have hv : dlSelVoice s.dlSel = v := dlSelVoice_eq s.dlSel
  have hk : dlSelIndex s.dlSel = k := dlSelIndex_eq s.dlSel
  have hread : exec .rdDlData s = .next { s with portValid := false, rdata := some (dlData s) } := rfl
  rw [hread, ← hv, ← hk]
  exact ⟨fun x hx hcap => by rw [dlData_of_inRange hx hcap], fun hout => by rw [dlData_of_outOfRange hout]⟩

/-- Settles O15: the two masks of `ctrlWritten`, bit by bit. -/
theorem ctrlWriteMasks : Obligations.CtrlWriteMasks :=
  ⟨fun _ d => decode_writeEvent (g := .ctrl) rfl d, fun _ d => ⟨ctrlWritten d, rfl, fun _ hk => ctrlWritten_getLsbD d hk⟩⟩

/-- Settles O16: the mask of `statusWritten`, bit by bit. -/
theorem statusWriteClearsOnes : Obligations.StatusWriteClearsOnes :=
  ⟨fun _ d => decode_writeEvent (g := .status) rfl d,
    fun s d => ⟨statusWritten s.status d, rfl, fun _ hk => statusWritten_getLsbD s.status d hk⟩⟩

/-- Settles O17: the list of voices starts at bit 0. -/
theorem trigWriteOrsIntoPending : Obligations.TrigWriteOrsIntoPending := by
  refine ⟨fun n d => decode_writeEvent (g := .trig) rfl d, fun s d => ⟨orTrig d s.voices, rfl, ?length, ?voice⟩⟩
  case length => exact (orTrigFrom_registersWritten d s.voices 0).length_eq.symm
  case voice =>
    intro k x hx
    rw [orTrig, orTrigFrom_getElem?, hx, Option.map_some, Nat.zero_add]

/-- Settles O18: the mask of `dlSelBits` keeps the low 20 bits. -/
theorem dlSelWriteKeepsFields : Obligations.DlSelWriteKeepsFields :=
  ⟨fun _ d => decode_writeEvent (g := .dlSel) rfl d, fun _ d => ⟨dlSelBits d, rfl, dlSelBits_toNat d⟩⟩

end Sys2Proof.Machine
end

section
/-! PROOFS. The commands of CMD (40_bus_interface.md R140 to R144). -/

namespace Sys2Proof.Machine

/-- The reserved words of CMD are those with a nonzero bit above the command's field or a command from 4 on
(30_encoding.md R107). -/
theorem three_lt_toNat_of_reserved {d : Word} (hd : d.extractLsb' 4 28 ≠ 0#28 ∨ 4#4 ≤ d.extractLsb' 0 4) :
    3 < d.toNat := by
  by_contra hsmall
  have hvalues : d = 0#32 ∨ d = 1#32 ∨ d = 2#32 ∨ d = 3#32 := by bv_omega
  rcases hvalues with rfl | rfl | rfl | rfl <;> revert hd <;> decide

/-- Settles O22: a reserved word lies above the four commands. -/
theorem nopAndReservedCommands : Obligations.NopAndReservedCommands :=
  ⟨fun n => decodeInvertsEncode n .cmdNop rfl,
    fun n d hd => decodeInvertsEncode n (.cmdReserved d) (decide_eq_true (three_lt_toNat_of_reserved hd)),
    fun _ _ => ⟨rfl, rfl⟩⟩

/-- Settles O23: COMMIT maps over the voices and over the LFOs. -/
theorem commitLoadsEveryActiveCopy : Obligations.CommitLoadsEveryActiveCopy := by
  refine ⟨fun n => decodeInvertsEncode n .cmdCommit rfl,
    fun s => ⟨s.voices.map Voice.commit, s.lfos.map Lfo.commit, rfl, List.length_map .., ?voice, ?lfo⟩⟩
  case voice =>
    intro k x hx
    rw [List.getElem?_map, hx]
    rfl
  case lfo =>
    intro i x hx
    rw [LfoBank.get_map, hx]
    rfl

/-- Settles O24: every unit is mapped to its cleared form, whose memory lists no cell. -/
theorem clearZeroesSignalState : Obligations.ClearZeroesSignalState := by
  refine ⟨fun n => decodeInvertsEncode n .cmdClear rfl, fun s => ⟨s.quiet.clear, rfl, ?voice, ?_⟩⟩
  case voice =>
    intro k x hx
    refine ⟨x.clear, ?_, fun _ => rfl, rfl, rfl, rfl, rfl, rfl, rfl, rfl, rfl⟩
    rw [State.clear_voices, State.quiet_voices, List.getElem?_map, hx, Option.map_some]
  refine ⟨List.length_map .., ?lfo, rfl, rfl, List.length_map .., ?comb, List.length_map .., ?allpass,
    rfl, rfl, rfl, rfl, rfl, rfl, rfl, rfl, rfl, rfl, rfl, rfl, rfl, rfl, rfl, rfl⟩
  case lfo =>
    intro i x hx
    rw [State.clear_lfos, State.quiet_lfos, LfoBank.get_map, hx]
    rfl
  case comb =>
    intro x hx
    obtain ⟨-, -, rfl⟩ := List.mem_map.1 hx
    exact ⟨fun _ => rfl, rfl, rfl⟩
  case allpass =>
    intro x hx
    obtain ⟨-, -, rfl⟩ := List.mem_map.1 hx
    exact ⟨fun _ => rfl, rfl⟩

end Sys2Proof.Machine
end

section
/-! PROOFS. The two tick sources, the silent tick, and what an enabled tick leaves unchanged (40_bus_interface.md R142,
41_tick_sequence.md R200 to R207). -/

namespace Sys2Proof.Machine

theorem tick_of_disabled {s : State} (hen : ctrlEn s.ctrl = false) : tick s = .next (silentTick s) := by
  rw [tick, hen]
  rfl

/-- Settles O27: TICK_SRC decides whether a source makes a tick, and EN whether the tick is silent. -/
theorem tickSourcesAndSilentTick : Obligations.TickSourcesAndSilentTick := by
  refine ⟨fun n => ⟨decodeInvertsEncode n .cmdTick rfl, rfl⟩, fun s => ?_⟩
  intro silent
  refine ⟨fun hsrc => ?command, fun hsrc => ?strobe, fun hsrc hen => ?silentCommand, fun hsrc hen => ?silentStrobe⟩
  case command => exact if_neg (Bool.eq_false_iff.1 hsrc)
  case strobe => exact if_pos hsrc
  case silentCommand => exact (exec_eq_tick (i := .cmdTick) hsrc).trans (tick_of_disabled hen)
  case silentStrobe =>
    have hsource : ctrlTickSrc s.ctrl = false := hsrc
    have htick : makesTick .strobe s = true := by rw [makesTick, hsource, Bool.not_false]
    exact (exec_eq_tick htick).trans (tick_of_disabled hen)

/-- The selected source makes the enabled tick. -/
theorem exec_of_enabled {s : State} {i : Instr}
    (hsrc : (i = .cmdTick ∧ s.ctrl.getLsbD 1 = true) ∨ (i = .strobe ∧ s.ctrl.getLsbD 1 = false))
    (hen : s.ctrl.getLsbD 0 = true) (hcells : s.indexed = true) : exec i s = .next (enabledTick s) := by
  rcases hsrc with ⟨rfl, hsrc⟩ | ⟨rfl, hsrc⟩
  · exact exec_cmdTick_enabled hsrc hen hcells
  · exact exec_strobe_enabled hsrc hen hcells

/-- Settles O29: each source makes the same enabled tick, and that is read field by field. -/
theorem enabledTickCompletes : Obligations.EnabledTickCompletes := by
  intro s i hsrc hen hcells
  refine ⟨enabledTick s, exec_of_enabled hsrc hen hcells, enabledTick_sampleCount s, ?lfo, ?_⟩
  case lfo =>
    intro j x hx
    rw [enabledTick_lfos, LfoBank.get_map, hx]
    rfl
  simp only [enabledTick_outL, enabledTick_outR, enabledTick_portL, enabledTick_portR, enabledTick_portValid,
    enabledTick_rdata, enabledTick_cfg, enabledTick_ctrl, enabledTick_status, enabledTick_dlSel, enabledTick_shGlobal,
    enabledTick_actGlobal, enabledTick_events, true_and]
  refine ⟨?length, fun k x hx => ⟨_, enabledTick_voice hx, ?_⟩⟩
  case length => rw [enabledTick_voices, tickVoices, List.length_map]
  obtain ⟨hsh, hact, -⟩ := voiceStep_fields (c := s.cfg) (ctrl := s.ctrl) (g := s.actGlobal) (l0 := vibLfo s)
    (l2 := toneLfo s) (x := x) rfl rfl rfl
  exact ⟨hsh, hact⟩

end Sys2Proof.Machine
end

section
/-! PROOFS. What a voice holds before its loop: the length of the tick, the position after the resize, and the draws of an
excitation (00_scope.md R17, 43_voice_engine.md R244 to R252). -/

namespace Sys2Proof.Machine

/-! ### The resize -/

/-- The position falls to 0 only where a new length leaves it outside (R244). -/
theorem Voice.resize_pos (l : Nat) (v : Voice) :
    (v.resize l).pos = if l = v.len then v.pos else if l ≤ v.pos then 0 else v.pos := by
  unfold Voice.resize
  split <;> rfl

theorem Voice.prepare_len (c : Config) (ctrl : Word) (g : GlobalParams) (l0 : Word) (v : Voice) :
    (v.prepare c ctrl g l0).len = delayLength c (voiceFreq c ctrl g l0 v) := by
  rw [Voice.prepare, Voice.consume_len, Voice.resize_len]

theorem two_le_prepare_len {c : Config} (hc : configOk c = true) (ctrl : Word) (g : GlobalParams) (l0 : Word) (v : Voice) :
    2 ≤ (v.prepare c ctrl g l0).len := by
  obtain ⟨hlo, hhi⟩ := voiceFreq_between hc ctrl g l0 v
  rw [Voice.prepare_len]
  exact (delayLength_eq hc hlo hhi).1

/-! ### The draws -/

theorem fill_seed (n k : Nat) (w : Word) (m : Memory) : (fill n k w m).2 = xs32^[n] w := by
  induction n generalizing k w m with
  | zero => rfl
  | succ n ih => exact ih (k + 1) (xs32 w) _

/-- The draws start at cell k, so a cell below it is not reached. -/
theorem read_fill_of_lt (n : Nat) {k a : Nat} (w : Word) (m : Memory) (ha : a < k) :
    Memory.read (fill n k w m).1 a = Memory.read m a := by
  induction n generalizing k w m with
  | zero => rfl
  | succ n ih => exact (ih _ _ (by omega)).trans (Memory.read_write_of_ne m _ (by omega))

theorem read_fill_of_le {n k a : Nat} (w : Word) (m : Memory) (ha : k + n ≤ a) :
    Memory.read (fill n k w m).1 a = Memory.read m a := by
  induction n generalizing k w m with
  | zero => rfl
  | succ n ih => exact (ih _ _ (by omega)).trans (Memory.read_write_of_ne m _ (by omega))

/-- Draw j + 1 stands in cell k + j (R247, R249). -/
theorem read_fill_add {n j : Nat} (k : Nat) (w : Word) {m : Memory} (hm : Memory.wf m) (hj : j < n) :
    Memory.read (fill n k w m).1 (k + j) = noise (xs32^[j + 1] w) := by
  induction n generalizing k j w m with
  | zero => omega
  | succ n ih =>
    rw [fill]
    cases j with
    | zero => exact (read_fill_of_lt n _ _ (by omega)).trans (Memory.read_write_self hm k _)
    | succ j =>
      rw [show k + (j + 1) = k + 1 + j by omega]
      exact ih (k + 1) (xs32 w) (Memory.write_wf hm k _) (Nat.lt_of_succ_lt_succ hj)

/-! ### The voice before its loop -/

/-- Without a trigger the resize alone moves the voice, and it moves the position alone (R244, R248). -/
theorem Voice.prepare_idle_fields {c : Config} {ctrl : Word} {g : GlobalParams} {l0 : Word} {x p : Voice}
    (h : x.trigPending = false) (hp : x.prepare c ctrl g l0 = p) :
    p.buf = x.buf ∧ p.pos = (if p.len = x.len then x.pos else if p.len ≤ x.pos then 0 else x.pos) ∧ p.yp = x.yp ∧
      p.seed = x.seed := by
  rw [Voice.prepare_idle h] at hp
  subst hp
  rw [Voice.resize_buf, Voice.resize_pos, Voice.resize_len, Voice.resize_yp, Voice.resize_seed]
  exact ⟨rfl, rfl, rfl, rfl⟩

/-- A pending trigger fills the resized line with draws, one for each cell, and clears the filter (R248, R249). -/
theorem Voice.prepare_pending_fields {c : Config} {ctrl : Word} {g : GlobalParams} {l0 : Word} {x p : Voice}
    (h : x.trigPending = true) (hp : x.prepare c ctrl g l0 = p) :
    p.buf = (fill p.len 0 x.seed x.buf).1 ∧ p.pos = 0 ∧ p.yp = zero32 ∧ p.seed = xs32^[p.len] x.seed := by
  rw [Voice.prepare_pending h] at hp
  subst hp
  simp only [Voice.excite_buf, Voice.excite_pos, Voice.excite_len, Voice.excite_yp, Voice.excite_seed, Voice.resize_buf,
    Voice.resize_len, Voice.resize_seed, fill_seed, and_self]

/-! ### The sample -/

/-- The loop reads of the voice the cell at its position and its filter state (R250 to R252). -/
theorem loopSample_eq {v : Voice} {x y1 : Word} (hx : Memory.read v.buf v.pos = x) (hy : v.yp = y1) (c : Config)
    (ctrl b d : Word) :
    loopSample c ctrl b d v =
      if ctrlNlEn ctrl then nonlinear c (loopFilter b d x y1) else loopFilter b d x y1 := by
  subst hx hy
  rfl

end Sys2Proof.Machine
end

section
/-! PROOFS. The voices in an enabled tick (41_tick_sequence.md R204, R205, R259, 43_voice_engine.md R240 to R254). -/

namespace Sys2Proof.Machine

/-- After an enabled tick each voice is its voice step. -/
theorem exec_enabledTick_voice {s t : State} {i : Instr} {k : Nat} {x : Voice} (htick : makesTick i s = true)
    (hen : ctrlEn s.ctrl = true) (h : exec i s = .next t) (hx : s.voices[k]? = some x) :
    t.voices[k]? = some (voiceStep s.cfg s.ctrl s.actGlobal (vibLfo s) (toneLfo s) x) :=
  exec_enabledTick htick hen h ▸ enabledTick_voice hx

/-- Settles O35: the length is that of the resize, which neither the excitation nor the loop changes. -/
theorem voiceTickLength : Obligations.VoiceTickLength := by
  intro s t i k x htick hen h hx
  obtain ⟨hsh, hact, htrig, -, hlen, -⟩ := voiceStep_fields (c := s.cfg) (ctrl := s.ctrl) (g := s.actGlobal)
    (l0 := vibLfo s) (l2 := toneLfo s) (x := x) rfl rfl rfl
  exact ⟨_, exec_enabledTick_voice htick hen h hx, hlen.trans (Voice.prepare_len ..), hsh, hact, htrig⟩

/-- Settles O36: without a trigger the voice before its loop is the resized one, and the loop writes the one cell at its
position. -/
theorem voiceTickLoop : Obligations.VoiceTickLoop := by
  intro s t i k x htick hen h hx hidle hwf
  refine ⟨_, exec_enabledTick_voice htick hen h hx, ?_⟩
  generalize hy : voiceStep s.cfg s.ctrl s.actGlobal (vibLfo s) (toneLfo s) x = y
  generalize hq : x.prepare s.cfg s.ctrl s.actGlobal (vibLfo s) = q
  obtain ⟨hqbuf, hqpos, hqyp, hqseed⟩ := Voice.prepare_idle_fields hidle hq
  obtain ⟨-, -, -, hbuf, hlen, hpos, hyp, hvout, hseed⟩ := voiceStep_fields hy.symm hq.symm rfl
  rw [← hlen] at hqpos hpos
  intro p b0 l2 bt b d u z
  have hz : loopSample s.cfg s.ctrl (voiceBright s.cfg s.ctrl s.actGlobal (toneLfo s) x) (voiceDamp s.cfg x) q = z :=
    loopSample_eq (by rw [hqbuf, hqpos]) hqyp ..
  rw [hz] at hbuf hyp hvout
  rw [hqbuf, hqpos] at hbuf
  rw [hqpos] at hpos
  refine ⟨hvout, hyp, ?written, fun a ha => ?others, hpos, hseed.trans hqseed⟩
  case written => rw [hbuf, Memory.read_write_self hwf]
  case others => rw [hbuf, Memory.read_write_of_ne _ _ ha]

/-- Settles O37: the voice before its loop holds the draws, and the loop replaces the first of them. -/
theorem voiceTickExcites : Obligations.VoiceTickExcites := by
  intro s t i k x hinv htick hen h hx hpending
  obtain ⟨hcfg, -, hvoices, -⟩ := hinv
  obtain ⟨-, -, -, -, hwf, -⟩ := hvoices x (List.mem_of_getElem? hx)
  have htwo := two_le_prepare_len hcfg s.ctrl s.actGlobal (vibLfo s) x
  refine ⟨_, exec_enabledTick_voice htick hen h hx, ?_⟩
  generalize hy : voiceStep s.cfg s.ctrl s.actGlobal (vibLfo s) (toneLfo s) x = y
  generalize hq : x.prepare s.cfg s.ctrl s.actGlobal (vibLfo s) = q at htwo
  obtain ⟨hqbuf, hqpos, hqyp, hqseed⟩ := Voice.prepare_pending_fields hpending hq
  obtain ⟨-, -, htrig, hbuf, hlen, hpos, hyp, hvout, hseed⟩ := voiceStep_fields hy.symm hq.symm rfl
  rw [← hlen] at htwo hqbuf hqseed hpos
  intro b0 l2 bt b d u z
  have hdraw {a : Nat} (ha : a < y.len) : Memory.read q.buf a = noise (xs32^[a + 1] x.seed) := by
    rw [hqbuf, ← read_fill_add 0 x.seed hwf ha, Nat.zero_add]
  have hz : loopSample s.cfg s.ctrl (voiceBright s.cfg s.ctrl s.actGlobal (toneLfo s) x) (voiceDamp s.cfg x) q = z :=
    loopSample_eq (by rw [hqpos, hdraw (by omega)]; rfl) hqyp ..
  rw [hz, hqpos] at hbuf
  rw [hz] at hyp hvout
  refine ⟨hvout, hyp, ?first, fun a ha hlt => ?draws, fun a ha => ?beyond, hseed.trans hqseed, ?pos, htrig⟩
  case first => rw [hbuf, Memory.read_write_self (hqbuf ▸ fill_wf _ _ _ _ hwf)]
  case draws => rw [hbuf, Memory.read_write_of_ne _ _ (by omega), hdraw hlt]
  case beyond => rw [hbuf, Memory.read_write_of_ne _ _ (by omega), hqbuf, read_fill_of_le _ _ (by omega)]
  case pos => rw [hpos, hqpos, Nat.mod_eq_of_lt (by omega)]

/-- Of the global parameters a voice step reads the depths of vibrato and tone only (43_voice_engine.md R242, R246). -/
theorem voiceStep_eq_of_depths {g g' : GlobalParams} (hvib : g'.vibDepth = g.vibDepth)
    (htone : g'.toneDepth = g.toneDepth) (c : Config) (ctrl l0 l2 : Word) (v : Voice) :
    voiceStep c ctrl g' l0 l2 v = voiceStep c ctrl g l0 l2 v := by
  have hf : voiceFreq c ctrl g' l0 v = voiceFreq c ctrl g l0 v := by rw [voiceFreq, hvib, voiceFreq]
  have hb : voiceBright c ctrl g' l2 v = voiceBright c ctrl g l2 v := by rw [voiceBright, htone, voiceBright]
  rw [voiceStep, voiceStep, Voice.prepare, Voice.prepare, hf, hb]

/-- Which operation makes a tick depends on CTRL alone (41_tick_sequence.md R201). -/
theorem makesTick_eq_of_ctrl {s s' : State} (h : s'.ctrl = s.ctrl) (i : Instr) : makesTick i s' = makesTick i s := by
  cases i <;> simp only [makesTick, h]

/-- Settles O38: both ticks apply one voice step, since the two states agree on all that it reads. -/
theorem voicesDoNotInterfere : Obligations.VoicesDoNotInterfere := by
  intro s s' t t' i k htick hen hcfg hctrl hvib htone hlfos hk h h'
  have ht := exec_enabledTick htick hen h
  have ht' := exec_enabledTick (makesTick_eq_of_ctrl hctrl i ▸ htick) (hctrl ▸ hen) h'
  have hl0 : vibLfo s' = vibLfo s := by rw [vibLfo, hcfg, hlfos, vibLfo]
  have hl2 : toneLfo s' = toneLfo s := by rw [toneLfo, hcfg, hlfos, toneLfo]
  rw [ht, ht', enabledTick_voices, enabledTick_voices, tickVoices, tickVoices, List.getElem?_map, List.getElem?_map, hk,
    hcfg, hctrl, hl0, hl2, funext (voiceStep_eq_of_depths hvib htone _ _ _ _)]

end Sys2Proof.Machine
end

section
/-! PROOFS. The post chain in an enabled tick (44_post_chain.md R270 to R272, R279 to R282). -/

namespace Sys2Proof.Machine

theorem voiceSum_eq_foldl_map (vs : List Voice) : voiceSum vs = (vs.map Voice.vout).foldl add32 zero32 := by
  rw [List.foldl_map]
  rfl

/-- Settles O31: each tap is its stage of the tick, and the sum is that of the samples the tick left in the voices. -/
theorem enabledTickPostChain : Obligations.EnabledTickPostChain := by
  intro s t i htick hen h m0 l1 g m
  have ht := exec_enabledTick htick hen h
  have hm : tickSum s = m := by
    have hm0 : m0 = mul32 (voiceSum (tickVoices s)) s.cfg.headroom := by
      rw [voiceSum_eq_foldl_map, ← enabledTick_voices, ← ht]
      rfl
    show mix s.cfg s.ctrl s.actGlobal (tremLfo s) (tickVoices s) = if s.ctrl.getLsbD 4 then mul32 m0 g else m0
    rw [hm0]
    rfl
  rw [ht, enabledTick_tapSum, enabledTick_dcX1, enabledTick_tapDc, enabledTick_dcY1, enabledTick_outL, enabledTick_tapRev,
    tickDc, hm]
  exact ⟨rfl, rfl, rfl, rfl, rfl⟩

end Sys2Proof.Machine
end

section
/-! PROOFS. The step, the dropped strobe, and the valid bit of the audio port (41_tick_sequence.md R202, R207, R209). -/

namespace Sys2Proof.Machine

/-- Settles O6: a step fetches the next event, or finds none. -/
theorem stepRunsNextEvent : Obligations.StepRunsNextEvent := by
  refine ⟨fun s e es hes => ?_, fun s hes => ?_⟩
  · rw [step, State.fetch, hes]
  · rw [step, State.fetch, hes]

/-- Settles O28: TICK_SRC decides whether a dropped strobe counts. -/
theorem strobeDropSetsOverrun : Obligations.StrobeDropSetsOverrun :=
  ⟨fun _ => rfl, fun _ => ⟨fun hsrc => if_neg (Bool.eq_false_iff.1 hsrc), fun hsrc => if_pos hsrc⟩⟩

theorem tick_portValid {s t : State} (h : tick s = .next t) : t.portValid = true := by
  rcases tick_cases h with ⟨-, rfl⟩ | ⟨-, -, rfl⟩
  · exact silentTick_portValid s
  · exact enabledTick_portValid s

theorem RegisterEffect.portValid {s t : State} (h : RegisterEffect s t) : t.portValid = false := by
  cases h <;> rfl

/-- Settles O52: a tick emits, and the four other things that an operation can do start from the state with portValid at 0
and do not reach the samples, but for RESET. -/
theorem portValidExactlyAfterTick : Obligations.PortValidExactlyAfterTick := by
  intro i s t h
  cases exec_effect h with
  | tick hi ht => exact ⟨(tick_portValid ht).trans hi.symm, fun hno => by simp [hi] at hno⟩
  | commit hi ht =>
    subst hi ht
    exact ⟨rfl, fun _ _ => ⟨rfl, rfl⟩⟩
  | clear hi ht =>
    subst hi ht
    exact ⟨rfl, fun _ _ => ⟨rfl, rfl⟩⟩
  | reset hi ht =>
    subst hi ht
    exact ⟨rfl, fun _ hne => absurd rfl hne⟩
  | register hi hr => exact ⟨hr.portValid.trans hi.symm, fun _ _ => ⟨hr.sameSignals.portL, hr.sameSignals.portR⟩⟩

end Sys2Proof.Machine
end

section
/-! PROOFS. The waveforms of the LFOs: values n / 2^a that binary32 holds exactly, and the entries of the sine table
(42_lfo_bank.md R223 to R229). -/

namespace Sys2Proof.Machine

/-! ### Exact values -/

/-- Doubling keeps a value of at most 24 significant bits representable: below the normal ones the significand doubles,
from there on the exponent grows. -/
theorem exists_magVal_eq {q : Nat} (hq : q ≤ 2 ^ 24) (j : Nat) : ∃ m, magVal m = 2 ^ j * q := by
  induction j with
  | zero => exact ⟨q, by simpa using magVal_significand hq (.inl rfl)⟩
  | succ j ih =>
    obtain ⟨m, hm⟩ := ih
    have hdouble : 2 ^ (j + 1) * q = 2 * magVal m := by rw [hm, pow_succ']; ring
    rw [hdouble]
    rcases Nat.lt_or_ge m (2 ^ 23) with hsub | hnormal
    · have hm0 : magVal m = m := if_pos (Nat.div_eq_of_lt hsub)
      exact ⟨2 * m, by simpa [hm0] using magVal_significand (q := 2 * m) (by omega) (.inl rfl)⟩
    · exact ⟨m + 2 ^ 23, magVal_add_exponent hnormal⟩

/-- A representable value rounds to itself. -/
theorem ofFix_eq_pack {z : Int} {m : Nat} (hm : m ≤ infBits) (hz : magVal m = z.natAbs) :
    ofFix z = pack (decide (z < 0)) m := by
  have hround := roundMag_exact 0 hm
  rw [pow_zero, one_mul, hz] at hround
  rw [ofFix, hround]

theorem toFix_ofFix {z : Int} {m : Nat} (hm : m ≤ infBits) (hz : magVal m = z.natAbs) : toFix (ofFix z) = z := by
  rw [ofFix_eq_pack hm hz, toFix_pack _ (hm.trans_lt (by decide)), hz]
  by_cases hneg : z < 0
  · rw [decide_eq_true hneg, if_pos rfl]; omega
  · rw [decide_eq_false hneg, if_neg Bool.false_ne_true]; omega

/-- An exact zero is +0.0, and no other value is a zero. -/
theorem ofFix_ne_negZero {z : Int} (hz : toFix (ofFix z) = z) : ofFix z ≠ 0x80000000#32 := by
  intro hneg
  have hzero : toFix 0x80000000#32 = 0 := by decide
  rw [hneg, hzero] at hz
  subst hz
  exact absurd hneg (by decide)

/-- A fraction n / 2^a in [-1, 1] with a of at most 24, in units of 2^-149. -/
theorem ofFix_fraction {a j : Nat} {n : Int} (ha : a ≤ 24) (hj : j + a = 149) (hn : n.natAbs ≤ 2 ^ a) :
    absLe 1 (ofFix (2 ^ j * n)) ∧ toFix (ofFix (2 ^ j * n)) = 2 ^ j * n ∧ ofFix (2 ^ j * n) ≠ 0x80000000#32 := by
  have habs : (2 ^ j * n).natAbs = 2 ^ j * n.natAbs := by rw [Int.natAbs_mul, Int.natAbs_pow]; rfl
  obtain ⟨m, hm⟩ := exists_magVal_eq (hn.trans (Nat.pow_le_pow_right (by omega) ha)) j
  have hone : m ≤ 0x3F800000 := by
    rw [← magVal_strictMono.le_iff_le, magVal_one32, hm, ← hj, pow_add]
    exact Nat.mul_le_mul_left _ hn
  have hinf : m ≤ infBits := hone.trans (by decide)
  rw [← habs] at hm
  have hexact := toFix_ofFix hinf hm
  exact ⟨ofFix_eq_pack hinf hm ▸ absLe_one_pack _ hone, hexact, ofFix_ne_negZero hexact⟩

/-! ### Triangle and sawtooth -/

/-- The numerator of the triangle over 2^22, at the top 24 bits h of the phase (R226). -/
def triNumerator (h : Int) : Int := if h < 2 ^ 23 then h - 2 ^ 22 else 3 * 2 ^ 22 - h

theorem natAbs_triNumerator_le {h : Nat} (hh : h < 2 ^ 24) : (triNumerator h).natAbs ≤ 2 ^ 22 := by
  unfold triNumerator; split_ifs <;> omega

theorem tri_eq (p : Word) : tri p = ofFix (2 ^ 127 * triNumerator (p.toNat / 256 : Nat)) := rfl

theorem saw_eq (p : Word) : saw p = ofFix (2 ^ 126 * ((p.toNat / 256 : Nat) - 2 ^ 23)) := rfl

theorem phase_top_lt (p : Word) : p.toNat / 256 < 2 ^ 24 := by have := p.isLt; omega

/-! ### Sine and cosine -/

/-- The table has 2^LOG2_LUT entries, at most 2^15, each of a magnitude of at most 1.0 (00_scope.md R8 P11, P12). -/
theorem configOk_lut {c : Config} (h : configOk c = true) :
    c.log2Lut ≤ 15 ∧ c.sinLut.length = 2 ^ c.log2Lut ∧ ∀ w ∈ c.sinLut, magBits w ≤ 0x3F800000 := by
  simp only [configOk, lutOk, lutSize, Bool.and_eq_true, decide_eq_true_eq, beq_iff_eq, List.all_eq_true] at h
  obtain ⟨-, ⟨⟨-, hmax⟩, hlength⟩, hentries⟩ := h
  exact ⟨hmax, hlength, hentries⟩

theorem absLe_one_of_magBits_le {w : Word} (h : magBits w ≤ 0x3F800000) : absLe 1 w :=
  pack_signBit_magBits w ▸ absLe_one_pack (signBit w) h

/-- A table entry that exists. -/
theorem sinLut_getElem?_of_lt {c : Config} (hc : configOk c = true) {k : Nat} (hk : k < 2 ^ c.log2Lut) :
    c.sinLut[k]? = some (sinEntry c k) := by
  obtain ⟨-, hlength, -⟩ := configOk_lut hc
  have hlt : k < c.sinLut.length := hlength ▸ hk
  rw [sinEntry, List.getD_eq_getElem _ _ hlt, List.getElem?_eq_getElem hlt]

theorem absLe_one_sinEntry {c : Config} (hc : configOk c = true) {k : Nat} (hk : k < 2 ^ c.log2Lut) :
    absLe 1 (sinEntry c k) := by
  obtain ⟨-, -, hentries⟩ := configOk_lut hc
  exact absLe_one_of_magBits_le (hentries _ (List.mem_of_getElem? (sinLut_getElem?_of_lt hc hk)))

theorem lutIndex_eq_shift (c : Config) (p : Word) : lutIndex c p = (p >>> (32 - c.log2Lut)).toNat := by
  rw [lutIndex, BitVec.toNat_ushiftRight, Nat.shiftRight_eq_div_pow]

/-- The top LOG2_LUT bits of a phase name an entry. -/
theorem lutIndex_lt {c : Config} (hc : configOk c = true) (p : Word) : lutIndex c p < 2 ^ c.log2Lut := by
  obtain ⟨hmax, -⟩ := configOk_lut hc
  refine Nat.div_lt_of_lt_mul ?_
  rw [← pow_add, Nat.sub_add_cancel (by omega)]
  exact p.isLt

/-- Settles O41: sine and cosine are entries of the table, and triangle and sawtooth are fractions over 2^22 and 2^23. -/
theorem waveformsStayInRange : Obligations.WaveformsStayInRange := by
  intro c p hc
  have hsin := lutIndex_lt hc p
  have hcos : (lutIndex c p + lutQuarter c) % lutSize c < 2 ^ c.log2Lut := Nat.mod_lt _ (Nat.two_pow_pos _)
  have hlt := phase_top_lt p
  obtain ⟨htriLe, htriVal, htriZero⟩ := ofFix_fraction (a := 22) (j := 127) (by omega) rfl (natAbs_triNumerator_le hlt)
  obtain ⟨hsawLe, hsawVal, hsawZero⟩ :=
    ofFix_fraction (a := 23) (j := 126) (n := (p.toNat / 256 : Nat) - 2 ^ 23) (by omega) rfl (by omega)
  rw [← tri_eq] at htriLe htriVal htriZero
  rw [← saw_eq] at hsawLe hsawVal hsawZero
  refine ⟨absLe_one_sinEntry hc hsin, absLe_one_sinEntry hc hcos, htriLe, hsawLe, ?table, ⟨htriVal, hsawVal⟩, htriZero,
    hsawZero, rfl, rfl, rfl⟩
  case table =>
    rw [← lutIndex_eq_shift]
    exact ⟨sinLut_getElem?_of_lt hc hsin, sinLut_getElem?_of_lt hc hcos⟩

end Sys2Proof.Machine
end

section
/-! PROOFS. Only enabled ticks, CMD CLEAR and RESET change a phase (42_lfo_bank.md R222). -/

namespace Sys2Proof.Machine

/-- The phases of t are those of s, LFO by LFO. -/
def SamePhases (s t : State) : Prop := ∀ j, (t.lfos.get j).map Lfo.phase = (s.lfos.get j).map Lfo.phase

/-- A write to an LFO reaches its shadow frequency alone. -/
theorem RegisterEffect.samePhases {s t : State} (h : RegisterEffect s t) : SamePhases s t := by
  cases h with
  | @lfo i x hx d =>
    intro j
    show ((s.lfos.set i { x with shFreq := d }).get j).map Lfo.phase = _
    rw [LfoBank.get_set]
    split_ifs with hj
    · rw [hj, hx]; rfl
    · rfl
  | _ => exact fun _ => rfl

theorem silentTick_samePhases (s : State) : SamePhases s (silentTick s) := fun _ => rfl

/-- CMD COMMIT loads an LFO's frequency and keeps its phase. -/
theorem commit_samePhases (s : State) : SamePhases s s.quiet.commit := by
  intro j
  rw [State.commit_lfos, State.quiet_lfos, LfoBank.get_map, Option.map_map]
  rfl

/-- Settles O54: of the five things that an operation can do, a silent tick, CMD COMMIT and a register write remain. -/
theorem phasesChangeOnlyInTicksClearAndReset : Obligations.PhasesChangeOnlyInTicksClearAndReset := by
  intro i s t j x y h htick hclear hreset hx hy
  have hsame : SamePhases s t := by
    cases exec_effect h with
    | tick hi ht =>
      rw [hi, Bool.true_and] at htick
      rw [tick_of_disabled htick] at ht
      cases ht
      exact silentTick_samePhases s
    | commit hi ht => exact ht ▸ commit_samePhases s
    | clear hi => exact absurd hi hclear
    | reset hi => exact absurd hi hreset
    | register hi hr => exact hr.samePhases
  simpa [hx, hy] using hsame j

end Sys2Proof.Machine
end

section
/-! PROOFS. Rounding keeps every bound that binary32 can represent (00_scope.md R13). -/

namespace Sys2Proof.Machine

/-! ### Rounded magnitudes -/

/-- Rounding goes over no representable bound: a larger rounded magnitude would have its midpoint above the bound. -/
theorem roundMag_le_of_le {n s m : Nat} (h : n ≤ 2 ^ s * magVal m) : roundMag n s ≤ m := by
  rw [roundMag_eq_min]
  refine (min_le_left _ _).trans (not_lt.1 fun hlt => ?_)
  obtain ⟨p, hp⟩ : ∃ p, roundUnbounded n s = p + 1 := ⟨_, (Nat.sub_one_add_one (by omega)).symm⟩
  have hmid := (roundUnbounded_nearestEven n s).lower_le p hp
  rw [hp] at hlt hmid
  have hlow : magVal m ≤ magVal p := magVal_strictMono.monotone (by omega)
  have hhigh : magVal p < magVal (p + 1) := magVal_strictMono p.lt_succ_self
  have hdouble : 2 ^ s * (magVal m + magVal m) < 2 ^ s * (magVal p + magVal (p + 1)) :=
    Nat.mul_lt_mul_of_pos_left (by omega) (by positivity)
  rw [mul_add] at hdouble
  omega

/-! ### Magnitudes of at most 1.0 -/

/-- Only a finite word has a value in [-1, 1]. -/
theorem absLe_one_iff {w : Word} : absLe 1 w ↔ fixMag w ≤ 2 ^ 149 := by
  refine ⟨fun h => by simpa using h.2, fun h => absLe_one_of_magBits_le ?_⟩
  rwa [fixMag_eq_magVal, ← magVal_one32, magVal_strictMono.le_iff_le] at h

theorem absLe_one_of_le {v w : Word} (hv : absLe 1 v) (h : fixMag w ≤ fixMag v) : absLe 1 w :=
  absLe_one_iff.2 (h.trans (absLe_one_iff.1 hv))

theorem toFix_half32 : toFix half32 = 2 ^ 148 := by decide

theorem toFix_one32 : toFix one32 = 2 ^ 149 := by decide

theorem fixMag_one32 : fixMag one32 = 2 ^ 149 := magVal_one32

theorem toFix_le_of_le32 {a b : Word} (h : le32 a b = true) : toFix a ≤ toFix b := by
  obtain ⟨-, -, hle⟩ := le32_iff.1 h
  exact hle

/-- A value in [0, 1] is its own magnitude. -/
theorem absLe_one_of_le32 {w : Word} (h0 : 0 ≤ toFix w) (h1 : le32 w one32 = true) : absLe 1 w := by
  have hle := toFix_le_of_le32 h1
  rw [toFix_one32, toFix_eq_fixMag h0] at hle
  exact absLe_one_iff.2 (by exact_mod_cast hle)

/-! ### Sums and products -/

/-- The magnitude bits of a rounded word, an exact zero included. -/
theorem RoundsTo.magBits_eq {w : Word} {z : Int} {b : Bool} (h : RoundsTo w z b) :
    magBits w = roundMag z.natAbs 0 := by
  obtain ⟨hzero, hne⟩ := h
  by_cases hz : z = 0
  · rw [hzero hz, hz, ← pack_zero, magBits_pack b (by decide)]; decide
  · rw [magBits_eq_extract, (hne hz).2]

/-- A rounded word has the value of the rounded exact one, whatever the sign of a zero. -/
theorem RoundsTo.toFix_eq {w : Word} {z : Int} {b : Bool} (h : RoundsTo w z b) : toFix w = toFix (ofFix z) := by
  have hbits := h.magBits_eq
  by_cases hz : z = 0
  · rw [hz] at hbits ⊢
    exact (toFix_eq_zero_iff w).2 hbits
  · have hsign : signBit w = decide (z < 0) := (h.2 hz).1
    rw [ofFix, toFix_pack _ (roundMag_lt _ _), toFix, hsign, fixMag_eq_magVal, hbits]

/-- A rounded sum has no larger magnitude than a representable bound of the exact one. -/
theorem RoundsTo.fixMag_le {w v : Word} {z : Int} {b : Bool} (h : RoundsTo w z b) (hz : z.natAbs ≤ fixMag v) :
    fixMag w ≤ fixMag v := by
  rw [fixMag_eq_magVal, fixMag_eq_magVal, h.magBits_eq]
  exact magVal_strictMono.monotone (roundMag_le_of_le (by simpa [fixMag_eq_magVal] using hz))

/-- The same of a product, whose exact value is in units of 2^-298. -/
theorem fixMag_mul32_le {a b v : Word} (ha : isFinite a = true) (hb : isFinite b = true)
    (h : fixMag a * fixMag b ≤ 2 ^ 149 * fixMag v) : fixMag (mul32 a b) ≤ fixMag v := by
  rw [mul32_finite ha hb, fixMag_pack _ (roundMag_lt _ _), fixMag_eq_magVal v]
  exact magVal_strictMono.monotone (roundMag_le_of_le h)

/-- A factor in [-1, 1] raises no magnitude. -/
theorem fixMag_mul32_le_left {a b : Word} (ha : absLe 1 a) (hb : absLe 1 b) : fixMag (mul32 a b) ≤ fixMag a :=
  fixMag_mul32_le ha.1 hb.1 (mul_comm (2 ^ 149) _ ▸ Nat.mul_le_mul_left _ (absLe_one_iff.1 hb))

/-! ### Between zero and a word -/

/-- The value z lies between 0 and that of v, on the side of v's sign. -/
def Between (v : Word) (z : Int) : Prop := z ∈ Set.uIcc 0 (toFix v)

theorem between_iff {v : Word} {z : Int} :
    Between v z ↔ (0 ≤ z ∧ z ≤ toFix v) ∨ (toFix v ≤ z ∧ z ≤ 0) := Set.mem_uIcc

theorem natAbs_toFix (w : Word) : (toFix w).natAbs = fixMag w := by
  unfold toFix; split <;> omega

/-- Two values of one sign, ordered by magnitude. -/
theorem between_of_signBit_eq {v w : Word} (hsign : signBit w = signBit v) (h : fixMag w ≤ fixMag v) :
    Between v (toFix w) := by
  rw [between_iff, toFix, toFix, hsign]
  cases signBit v <;> simp [h]

theorem Between.fixMag_le {v w : Word} (h : Between v (toFix w)) : fixMag w ≤ fixMag v := by
  rw [← natAbs_toFix w, ← natAbs_toFix v]
  rcases between_iff.1 h with h | h <;> omega

/-- Between 0 and -v, so v plus the value lies between 0 and v. -/
theorem Between.toFix_add {v : Word} {z : Int} (h : Between (neg32 v) z) : Between v (toFix v + z) := by
  rw [between_iff, toFix_neg32] at *
  omega

theorem Between.sub_toFix {v : Word} {z : Int} (h : Between v z) : Between (neg32 v) (z - toFix v) := by
  rw [between_iff, toFix_neg32] at *
  omega

theorem Between.trans {u v : Word} {z : Int} (huv : Between u (toFix v)) (hz : Between v z) : Between u z := by
  rw [between_iff] at *
  omega

/-- Rounding keeps a value between 0 and a word. -/
theorem RoundsTo.between {w v : Word} {z : Int} {b : Bool} (h : RoundsTo w z b) (hz : Between v z) :
    Between v (toFix w) := by
  by_cases hzero : z = 0
  · rw [h.toFix_eq, hzero]
    exact Set.left_mem_uIcc
  · have hmag : fixMag w ≤ fixMag v := h.fixMag_le (by
      rw [← natAbs_toFix v]
      rcases between_iff.1 hz with hz | hz <;> omega)
    have hsign : signBit w = decide (z < 0) := (h.2 hzero).1
    have hv : signBit v = decide (z < 0) := by
      rcases between_iff.1 hz with hz | hz <;> cases hs : signBit v <;> simp [toFix, hs] at hz ⊢ <;> omega
    exact between_of_signBit_eq (hsign.trans hv.symm) hmag

/-- A factor in [0, 1] moves a word towards 0; the factor -0.0 gives a zero. -/
theorem mul32_between {k u : Word} (hk : absLe 1 k) (hpos : 0 ≤ toFix k) (hu : absLe 1 u) :
    Between u (toFix (mul32 k u)) := by
  have hmag : fixMag (mul32 k u) ≤ fixMag u :=
    fixMag_mul32_le hk.1 hu.1 (Nat.mul_le_mul_right _ (absLe_one_iff.1 hk))
  cases hsign : signBit k with
  | false =>
    refine between_of_signBit_eq ?_ hmag
    rw [mul32_finite hk.1 hu.1, signBit_pack _ (roundMag_lt _ _)]
    show (signBit k != signBit u) = signBit u
    rw [hsign, Bool.false_bne]
  | true =>
    have hzero : fixMag k = 0 := by rw [toFix, hsign, if_pos rfl] at hpos; omega
    have hproduct : fixMag (mul32 k u) ≤ fixMag zero32 :=
      fixMag_mul32_le hk.1 hu.1 (by rw [hzero, zero_mul]; exact Nat.zero_le _)
    have hval : toFix (mul32 k u) = 0 := by
      rw [toFix_eq_zero_iff, ← fixMag_eq_zero_iff]
      exact Nat.le_zero.1 hproduct
    rw [hval]
    exact Set.left_mem_uIcc

end Sys2Proof.Machine
end

section
/-! PROOFS. The operands of the loop: noise draws, the complement of the brightness, the filter and the nonlinearity
(43_voice_engine.md R246 to R256). -/

namespace Sys2Proof.Machine

/-! ### The draws -/

theorem natAbs_toInt_le (x : BitVec 24) : x.toInt.natAbs ≤ 2 ^ 23 := by
  have hlo := BitVec.le_two_mul_toInt (x := x)
  have hhi := BitVec.two_mul_toInt_lt (x := x)
  omega

/-- A draw is a fraction over 2^23 in [-1, 1], which binary32 holds exactly. -/
theorem noise_fraction (s : Word) :
    absLe 1 (noise s) ∧ toFix (noise s) = 2 ^ 126 * (s.extractLsb' 8 24).toInt ∧ noise s ≠ 0x80000000#32 :=
  ofFix_fraction (a := 23) (by omega) rfl (natAbs_toInt_le _)

/-- Settles O42: a signed integer of 24 bits is a significand of binary32. -/
theorem noiseIsExact : Obligations.NoiseIsExact := by
  intro s
  obtain ⟨hle, hval, -⟩ := noise_fraction s
  exact ⟨hle.1, hval⟩

/-! ### The complement of the brightness -/

/-- A value in [0.5, 1] is a multiple of 2^-24. -/
theorem exists_multiple_of_half_le {w : Word} (hlo : 2 ^ 148 ≤ fixMag w) (hhi : fixMag w ≤ 2 ^ 149) :
    ∃ k ≤ 2 ^ 24, fixMag w = 2 ^ 125 * k := by
  obtain ⟨q, j, hm, hq, hj⟩ := exists_significand (magBits w)
  have hval : fixMag w = 2 ^ j * q := by rw [fixMag_eq_magVal, hm, magVal_significand hq.le hj]
  have hexp : 125 ≤ j := by
    by_contra hlt
    have hsmall : 2 ^ j * q < 2 ^ 124 * 2 ^ 24 :=
      Nat.mul_lt_mul_of_le_of_lt (Nat.pow_le_pow_right two_pos (by omega)) hq (by positivity)
    omega
  obtain ⟨i, rfl⟩ := Nat.exists_eq_add_of_le hexp
  rw [pow_add, mul_assoc] at hval
  exact ⟨2 ^ i * q, by omega, hval⟩

/-- What is between 0.5 and 1.0 as a word is so as a magnitude. -/
theorem unit_upper_half {b : Word} (hlo : le32 half32 b = true) (hhi : le32 b one32 = true) :
    absLe 1 b ∧ toFix b = fixMag b ∧ 2 ^ 148 ≤ fixMag b ∧ fixMag b ≤ 2 ^ 149 := by
  have hhalf := toFix_le_of_le32 hlo
  rw [toFix_half32] at hhalf
  have habs := absLe_one_of_le32 (by omega) hhi
  have hval : toFix b = fixMag b := toFix_eq_fixMag (by omega)
  exact ⟨habs, hval, by exact_mod_cast hval ▸ hhalf, absLe_one_iff.1 habs⟩

/-- 1 - b has no more bits than b. -/
theorem toFix_oneMinus {b : Word} (hlo : le32 half32 b = true) (hhi : le32 b one32 = true) :
    toFix (sub32 one32 b) = 2 ^ 149 - toFix b := by
  obtain ⟨habs, hval, hmin, hmax⟩ := unit_upper_half hlo hhi
  obtain ⟨k, hk, hmultiple⟩ := exists_multiple_of_half_le hmin hmax
  have hround := sub32_roundsTo (a := one32) (by decide) habs.1
  have hexact : toFix one32 - toFix b = 2 ^ 125 * (2 ^ 24 - k : Int) := by
    rw [toFix_one32, hval, hmultiple]; push_cast; ring
  obtain ⟨-, hfraction, -⟩ := ofFix_fraction (a := 24) (j := 125) (n := 2 ^ 24 - k) le_rfl rfl (by omega)
  rw [hround.toFix_eq, hexact, hfraction, ← hexact, toFix_one32]

/-- Settles O46: 1 - b is a fraction over 2^24, as b is. -/
theorem oneMinusBrightnessIsExact : Obligations.OneMinusBrightnessIsExact := fun _ hlo hhi => toFix_oneMinus hlo hhi

/-! ### The loop filter -/

/-- Refutes O48: for b = 0.5 and d = 0x3F7D70A4 the filter reads 3 * 2^-149 twice and gives 4 * 2^-149, because each half
rounds up to 2 * 2^-149 and the product with d back to 4 * 2^-149. -/
theorem not_loopNeverRaisesMagnitude : ¬ Obligations.LoopNeverRaisesMagnitude := by
  intro h
  have hraised : fixMag (loopFilter half32 0x3F7D70A4#32 3#32 3#32) = 4 := by decide +kernel
  have hread : fixMag 3#32 = 3 := by decide
  have hle := h half32 0x3F7D70A4#32 3#32 3#32 (by decide) (by decide) (by decide) (by decide) (by decide) (by decide)
  rw [hraised, hread] at hle
  omega

/-- The filter's sum is at most b + (1 - b), which is exact, so it stays in [-1, 1] (R255). -/
theorem loopFilter_absLe {b d x y1 : Word} (hlo : le32 half32 b = true) (hhi : le32 b one32 = true) (hd : absLe 1 d)
    (hx : absLe 1 x) (hy : absLe 1 y1) : absLe 1 (loopFilter b d x y1) := by
  obtain ⟨hb, hval, -, hmax⟩ := unit_upper_half hlo hhi
  have hrest : fixMag (sub32 one32 b) = 2 ^ 149 - fixMag b := by
    rw [← natAbs_toFix, toFix_oneMinus hlo hhi, hval]; omega
  have hrestAbs : absLe 1 (sub32 one32 b) := absLe_one_iff.2 (by omega)
  have hfresh : fixMag (mul32 b x) ≤ fixMag b := fixMag_mul32_le_left hb hx
  have hstate : fixMag (mul32 (sub32 one32 b) y1) ≤ fixMag (sub32 one32 b) := fixMag_mul32_le_left hrestAbs hy
  have hsum : absLe 1 (add32 (mul32 b x) (mul32 (sub32 one32 b) y1)) := by
    refine absLe_one_of_le (v := one32) (absLe_one_iff.2 fixMag_one32.le) ?_
    refine (add32_roundsTo (absLe_one_of_le hb hfresh).1 (absLe_one_of_le hrestAbs hstate).1).fixMag_le ?_
    rw [← natAbs_toFix] at hfresh hstate
    rw [fixMag_one32]
    omega
  exact absLe_one_of_le hd (fixMag_mul32_le_left hd hsum)

/-! ### The nonlinearity -/

theorem absLe_one_neg32 {w : Word} (h : absLe 1 w) : absLe 1 (neg32 w) := by
  rwa [absLe_one_iff, fixMag_neg32, ← absLe_one_iff]

/-- Tanh32 keeps the sign and raises no magnitude (T2, T4 of R18), so NL_COEF of the difference, rounded twice, takes y
towards 0 and not beyond (R252). -/
theorem nonlinear_absLe {c : Config} (hcoef : absLe 1 c.nlCoef) (hpos : 0 ≤ toFix c.nlCoef) {y : Word} (hy : absLe 1 y) :
    absLe 1 (nonlinear c y) := by
  obtain ⟨htanh, hmag, hsign, -⟩ := tanhHasItsProperties.2 c y hy.1
  have hdiff : Between (neg32 y) (toFix (sub32 (tanh32 c y) y)) :=
    (sub32_roundsTo htanh.1 hy.1).between (between_of_signBit_eq hsign hmag).sub_toFix
  have hdiffAbs : absLe 1 (sub32 (tanh32 c y) y) := absLe_one_of_le (absLe_one_neg32 hy) hdiff.fixMag_le
  have hscaled : Between (neg32 y) (toFix (mul32 c.nlCoef (sub32 (tanh32 c y) y))) :=
    hdiff.trans (mul32_between hcoef hpos hdiffAbs)
  have hscaledAbs := absLe_one_of_le (absLe_one_neg32 hy) hscaled.fixMag_le
  exact absLe_one_of_le hy ((add32_roundsTo hy.1 hscaledAbs.1).between hscaled.toFix_add).fixMag_le

end Sys2Proof.Machine
end

section
/-! PROOFS. The voices' cells, filter states and outputs stay in [-1, 1] (43_voice_engine.md R255, R256). -/

namespace Sys2Proof.Machine

/-! ### The parameters of the loop -/

theorem le32_trans {x y z : Word} (hxy : le32 x y = true) (hyz : le32 y z = true) : le32 x z = true := by
  obtain ⟨hx, -, h1⟩ := le32_iff.1 hxy
  obtain ⟨-, hz, h2⟩ := le32_iff.1 hyz
  exact le32_iff.2 ⟨hx, hz, h1.trans h2⟩

/-- The bounds that R8 sets for the damping, the brightness and NL_COEF (P6 to P8). -/
theorem configOk_loop {c : Config} (h : configOk c = true) :
    (le32 zero32 c.dampMin = true ∧ le32 c.dampMin c.dampMax = true ∧ le32 c.dampMax one32 = true) ∧
      (le32 half32 c.brightMin = true ∧ le32 c.brightMin one32 = true) ∧
      le32 zero32 c.nlCoef = true ∧ le32 c.nlCoef one32 = true := by
  simp only [configOk, gainsOk, inClosed, inHalfOpen, brightMax, Bool.and_eq_true] at h
  tauto

/-- The damping of a tick (R245). -/
theorem voiceDamp_absLe {c : Config} (hc : configOk c = true) (v : Voice) : absLe 1 (voiceDamp c v) := by
  obtain ⟨⟨hmin, hle, hmax⟩, -, -⟩ := configOk_loop hc
  obtain ⟨hlo, hhi⟩ := clampf_between hle v.act.damp
  exact absLe_one_of_le32 (toFix_le_of_le32 (le32_trans hmin hlo)) (le32_trans hhi hmax)

/-- The brightness of a tick lies in [0.5, 1], with tone modulation or without (R246). -/
theorem voiceBright_between {c : Config} (hc : configOk c = true) (ctrl : Word) (g : GlobalParams) (l2 : Word) (v : Voice) :
    le32 half32 (voiceBright c ctrl g l2 v) = true ∧ le32 (voiceBright c ctrl g l2 v) one32 = true := by
  obtain ⟨-, ⟨hmin, hle⟩, -⟩ := configOk_loop hc
  have clamped : ∀ x, le32 half32 (clampf x c.brightMin brightMax) = true ∧
      le32 (clampf x c.brightMin brightMax) one32 = true := fun x => by
    obtain ⟨hlo, hhi⟩ := clampf_between hle x
    exact ⟨le32_trans hmin hlo, hhi⟩
  unfold voiceBright
  simp only
  split <;> exact clamped _

/-! ### A voice -/

theorem Memory.read_absLe {b : Nat} {m : Memory} (h : Memory.bounded b m) (k : Nat) : absLe b (Memory.read m k) := by
  induction m with
  | nil => exact absLe_zero32 b
  | cons e m ih =>
    obtain ⟨hhead, htail⟩ := List.forall_mem_cons.1 h
    unfold Memory.read
    split
    · exact hhead
    · exact ih htail

theorem Memory.write_bounded {b : Nat} {m : Memory} (h : Memory.bounded b m) (k : Nat) {w : Word} (hw : absLe b w) :
    Memory.bounded b (Memory.write m k w) := fun e he => by
  rcases Memory.mem_write he with he | ⟨rfl, -⟩
  · exact h e he
  · exact hw

theorem fill_bounded (n : Nat) {k : Nat} {s : Word} {m : Memory} (h : Memory.bounded 1 m) :
    Memory.bounded 1 (fill n k s m).1 := by
  induction n generalizing k s m with
  | zero => exact h
  | succ n ih => exact ih (Memory.write_bounded h k (noise_fraction _).1)

theorem Voice.resize_bounded {v : Voice} (h : v.bounded) (l : Nat) : (v.resize l).bounded := by
  rwa [Voice.bounded, Voice.resize_buf, Voice.resize_yp, Voice.resize_vout]

theorem Voice.consume_bounded {v : Voice} (h : v.bounded) : v.consume.bounded := by
  unfold Voice.consume
  split
  · obtain ⟨hbuf, -, hout⟩ := h
    exact ⟨fill_bounded _ hbuf, absLe_zero32 1, hout⟩
  · exact h

theorem Voice.emit_bounded {v : Voice} (h : v.bounded) {y : Word} (hy : absLe 1 y) : (v.emit y).bounded :=
  ⟨Memory.write_bounded h.1 _ hy, hy, hy⟩

/-- The sample that a bounded voice's loop makes (R250 to R252). -/
theorem loopSample_absLe {c : Config} (hc : configOk c = true) {b d : Word} (hlo : le32 half32 b = true)
    (hhi : le32 b one32 = true) (hd : absLe 1 d) {v : Voice} (h : v.bounded) (ctrl : Word) :
    absLe 1 (loopSample c ctrl b d v) := by
  obtain ⟨-, -, hcoefPos, hcoefLe⟩ := configOk_loop hc
  obtain ⟨hbuf, hyp, -⟩ := h
  have hpos : 0 ≤ toFix c.nlCoef := toFix_le_of_le32 hcoefPos
  have hfilter := loopFilter_absLe hlo hhi hd (Memory.read_absLe hbuf v.pos) hyp
  rw [loopSample_eq rfl rfl]
  split
  · exact nonlinear_absLe (absLe_one_of_le32 hpos hcoefLe) hpos hfilter
  · exact hfilter

theorem voiceStep_bounded {c : Config} (hc : configOk c = true) (ctrl : Word) (g : GlobalParams) (l0 l2 : Word) {v : Voice}
    (h : v.bounded) : (voiceStep c ctrl g l0 l2 v).bounded := by
  obtain ⟨hlo, hhi⟩ := voiceBright_between hc ctrl g l2 v
  have hprepared : (v.prepare c ctrl g l0).bounded := Voice.consume_bounded (Voice.resize_bounded h _)
  exact Voice.emit_bounded hprepared (loopSample_absLe hc hlo hhi (voiceDamp_absLe hc v) hprepared ctrl)

theorem Voice.clear_bounded (v : Voice) : v.clear.bounded := ⟨Memory.bounded_nil 1, absLe_zero32 1, absLe_zero32 1⟩

/-- A register write reaches no sample of a voice. -/
theorem voices_bounded_of_registersWritten {vs ws : List Voice} (h : List.Forall₂ Voice.RegistersWritten vs ws)
    (hvs : ∀ v ∈ vs, v.bounded) : ∀ w ∈ ws, w.bounded := by
  induction h with
  | nil => exact hvs
  | cons hxy _ ih =>
    obtain ⟨hx, hxs⟩ := List.forall_mem_cons.1 hvs
    obtain ⟨p, b, w, -, rfl⟩ := hxy
    exact List.forall_mem_cons.2 ⟨hx, ih hxs⟩

/-! ### A step -/

theorem tick_voicesBounded {s t : State} (hc : configOk s.cfg = true) (hs : s.VoicesBounded) (h : tick s = .next t) :
    t.VoicesBounded := by
  rcases tick_cases h with ⟨-, rfl⟩ | ⟨-, -, rfl⟩
  · exact hs
  · rw [State.VoicesBounded, enabledTick_voices]
    exact List.forall_mem_map.2 fun v hv => voiceStep_bounded hc _ _ _ _ (hs v hv)

theorem exec_voicesBounded {i : Instr} {s t : State} (hc : configOk s.cfg = true) (hs : s.VoicesBounded)
    (h : exec i s = .next t) : t.VoicesBounded := by
  cases exec_effect h with
  | tick _ ht => exact tick_voicesBounded hc hs ht
  | commit _ ht => exact ht ▸ List.forall_mem_map.2 hs
  | clear _ ht => exact ht ▸ List.forall_mem_map.2 fun v _ => v.clear_bounded
  | reset _ ht => exact ht ▸ State.resetOf_voicesBounded s.cfg
  | register _ hr => exact voices_bounded_of_registersWritten hr.voices hs

/-- Settles O59: of the invariant only R8 is needed, whose bounds keep each voice step in [-1, 1]. -/
theorem stepKeepsVoicesBounded : Obligations.StepKeepsVoicesBounded := by
  intro s t hinv hs h
  rcases step_cases h with ⟨-, rfl⟩ | ⟨e, es, -, hexec⟩
  · exact hs
  · exact exec_voicesBounded (s := { s with events := es }) hinv.1 hs hexec

end Sys2Proof.Machine
end

section
/-! PROOFS. The reverb in an enabled tick (44_post_chain.md R273 to R278). -/

namespace Sys2Proof.Machine

/-! ### The series of allpasses -/

/-- What the series returns is the fold of its allpasses over the input. -/
theorem allpassOut_eq_foldl (g w : Word) (xs : List Allpass) :
    allpassOut g w xs = xs.foldl (fun u x => x.out g u) w := by
  induction xs generalizing w with
  | nil => rfl
  | cons x xs ih => exact ih (x.out g w)

/-- Allpass k steps on what the allpasses before it return. -/
theorem allpassSteps_getElem? (g w : Word) {ns : List Nat} {xs : List Allpass} {k n : Nat} {x : Allpass}
    (hx : xs[k]? = some x) (hn : ns[k]? = some n) :
    (allpassSteps g w ns xs)[k]? = some (x.step g ((xs.take k).foldl (fun u y => y.out g u) w) n) := by
  induction xs generalizing w ns k with
  | nil => cases hx
  | cons y ys ih =>
    cases ns with
    | nil => cases hn
    | cons m ms =>
      cases k with
      | zero => cases hx; cases hn; rfl
      | succ k => exact ih (y.out g w) hx hn

theorem combSum_eq_foldl_map (c : Config) (xs : List Comb) :
    combSum c xs = mul32 ((xs.map Comb.out).foldl add32 zero32) c.combScale := by
  rw [List.foldl_map]
  rfl

/-! ### The stages of the tick -/

theorem tickRev_of_enabled {s : State} (h : ctrlRevEn s.ctrl = true) :
    tickRev s = reverbOut s.cfg s.actGlobal s.combs s.allpasses (tickDc s) := if_pos h

theorem tickCombs_getElem? {s : State} (h : ctrlRevEn s.ctrl = true) {k n : Nat} {x : Comb} (hx : s.combs[k]? = some x)
    (hn : s.cfg.combLen[k]? = some n) :
    (tickCombs s)[k]? = some (x.step s.cfg (reverbFb s.cfg s.actGlobal) (tickDc s) n) := by
  rw [tickCombs, if_pos h]
  exact List.getElem?_zipWith_eq_some.2 ⟨n, x, hn, hx, rfl⟩

theorem tickAllpasses_getElem? {s : State} (h : ctrlRevEn s.ctrl = true) {k n : Nat} {x : Allpass}
    (hx : s.allpasses[k]? = some x) (hn : s.cfg.apLen[k]? = some n) :
    (tickAllpasses s)[k]? =
      some (x.step s.cfg.apG ((s.allpasses.take k).foldl (fun u y => y.out s.cfg.apG u) (combSum s.cfg s.combs)) n) := by
  rw [tickAllpasses, if_pos h]
  exact allpassSteps_getElem? _ _ hx hn

/-- Entries at one place of two related lists are related. -/
theorem rel_of_getElem? {α β : Type} {R : α → β → Prop} {as : List α} {bs : List β} (h : List.Forall₂ R as bs) {k : Nat}
    {a : α} {b : β} (ha : as[k]? = some a) (hb : bs[k]? = some b) : R a b := by
  obtain ⟨hka, rfl⟩ := List.getElem?_eq_some_iff.1 ha
  obtain ⟨hkb, rfl⟩ := List.getElem?_eq_some_iff.1 hb
  exact h.get hka hkb

/-! ### The statements -/

/-- Settles O32: with REV_EN = 0 each stage of the reverb keeps what it was given. -/
theorem reverbFrozenWhenDisabled : Obligations.ReverbFrozenWhenDisabled := by
  intro s t i htick hen hrev h
  have hoff : ¬ ctrlRevEn s.ctrl = true := Bool.eq_false_iff.1 hrev
  rw [exec_enabledTick htick hen h, enabledTick_tapRev, enabledTick_tapDc, enabledTick_combs, enabledTick_allpasses]
  exact ⟨if_neg hoff, if_neg hoff, if_neg hoff⟩

/-- Settles O33: comb k after the tick is its step, which writes the one cell at its index. -/
theorem combTick : Obligations.CombTick := by
  intro s t i k n x hinv htick hen hrev h hx hn
  obtain ⟨-, -, -, hcombs, -⟩ := hinv
  obtain ⟨-, hwf, -⟩ := rel_of_getElem? hcombs hn hx
  rw [exec_enabledTick htick hen h, enabledTick_combs, enabledTick_tapDc]
  exact ⟨_, tickCombs_getElem? hrev hx hn, rfl, Memory.read_write_self hwf _ _,
    fun a ha => Memory.read_write_of_ne _ _ ha, rfl⟩

/-- Settles O34: the wet signal is the fold of the whole series, and allpass k after the tick is its step, which writes the
one cell at its index. -/
theorem allpassTick : Obligations.AllpassTick := by
  intro s t i hinv htick hen hrev h w0 stored through mx
  obtain ⟨-, -, -, -, haps, -⟩ := hinv
  have hw0 : combSum s.cfg s.combs = w0 := combSum_eq_foldl_map s.cfg s.combs
  rw [exec_enabledTick htick hen h, enabledTick_tapRev, enabledTick_tapDc, enabledTick_allpasses]
  refine ⟨?mix, fun k n x hx hn => ?cell⟩
  case mix =>
    rw [tickRev_of_enabled hrev, reverbOut, allpassOut_eq_foldl, hw0]
    rfl
  case cell =>
    obtain ⟨-, hwf, -⟩ := rel_of_getElem? haps hn hx
    have hy := tickAllpasses_getElem? hrev hx hn
    rw [hw0] at hy
    exact ⟨_, hy, Memory.read_write_self hwf _ _, fun a ha => Memory.read_write_of_ne _ _ ha, rfl⟩

end Sys2Proof.Machine
end

section
/-! PROOFS. Bounds of sums and products of finite values: every integer up to 2^24 is a binary32 value, so rounding goes over
none of them (00_scope.md R13). -/

namespace Sys2Proof.Machine

/-! ### Bounds that are integers -/

/-- What is no larger in magnitude than a finite word is finite. -/
theorem isFinite_of_fixMag_le {v w : Word} (hv : isFinite v = true) (h : fixMag w ≤ fixMag v) : isFinite w = true := by
  rw [fixMag_eq_magVal, fixMag_eq_magVal, magVal_strictMono.le_iff_le] at h
  exact decide_eq_true (h.trans_lt (of_decide_eq_true hv))

theorem exists_finite_fixMag_eq {b : Nat} (hb : b ≤ 2 ^ 24) : ∃ v, isFinite v = true ∧ fixMag v = 2 ^ 149 * b := by
  obtain ⟨m, hm⟩ := exists_magVal_eq hb 149
  have hlt : m < infBits := by
    rw [← magVal_strictMono.lt_iff_lt, hm, magVal_infBits]
    omega
  exact ⟨pack false m, isFinite_pack _ hlt, by rw [fixMag_pack _ (hlt.trans (by decide)), hm]⟩

theorem absLe_mono {a b : Nat} {w : Word} (h : absLe a w) (hab : a ≤ b) : absLe b w :=
  ⟨h.1, h.2.trans (Nat.mul_le_mul_left _ hab)⟩

theorem RoundsTo.absLe_of_le {w : Word} {z : Int} {negZero : Bool} {b : Nat} (h : RoundsTo w z negZero) (hb : b ≤ 2 ^ 24)
    (hz : z.natAbs ≤ 2 ^ 149 * b) : absLe b w := by
  obtain ⟨v, hv, hval⟩ := exists_finite_fixMag_eq hb
  have hle := h.fixMag_le (hval ▸ hz)
  exact ⟨isFinite_of_fixMag_le hv hle, hval ▸ hle⟩

theorem add32_absLe {x y : Word} {a b : Nat} (hx : absLe a x) (hy : absLe b y) (hab : a + b ≤ 2 ^ 24) :
    absLe (a + b) (add32 x y) := by
  refine (add32_roundsTo hx.1 hy.1).absLe_of_le hab ?_
  have hxle := natAbs_toFix x ▸ hx.2
  have hyle := natAbs_toFix y ▸ hy.2
  omega

theorem sub32_absLe {x y : Word} {a b : Nat} (hx : absLe a x) (hy : absLe b y) (hab : a + b ≤ 2 ^ 24) :
    absLe (a + b) (sub32 x y) :=
  add32_absLe hx ⟨(isFinite_neg32 y).trans hy.1, (fixMag_neg32 y).trans_le hy.2⟩ hab

/-- A product with a gain: the bound of the other factor, times the gain, may be rounded up to an integer. -/
theorem mul32_absLe {k x : Word} {a b : Nat} (hk : isFinite k = true) (hx : absLe a x) (hb : b ≤ 2 ^ 24)
    (h : fixMag k * a ≤ 2 ^ 149 * b) : absLe b (mul32 k x) := by
  obtain ⟨v, hv, hval⟩ := exists_finite_fixMag_eq hb
  have hle : fixMag (mul32 k x) ≤ fixMag v := fixMag_mul32_le hk hx.1 (calc
    fixMag k * fixMag x ≤ fixMag k * (2 ^ 149 * a) := Nat.mul_le_mul_left _ hx.2
    _ = 2 ^ 149 * (fixMag k * a) := Nat.mul_left_comm ..
    _ ≤ 2 ^ 149 * fixMag v := Nat.mul_le_mul_left _ (hval ▸ h))
  exact ⟨isFinite_of_fixMag_le hv hle, hval ▸ hle⟩

theorem mul32_comm {a b : Word} (ha : isFinite a = true) (hb : isFinite b = true) : mul32 a b = mul32 b a := by
  rw [mul32_finite ha hb, mul32_finite hb ha, bne_comm, mul_comm]

/-- The same with the gain on the right. -/
theorem mul32_absLe_right {k x : Word} {a b : Nat} (hk : isFinite k = true) (hx : absLe a x) (hb : b ≤ 2 ^ 24)
    (h : fixMag k * a ≤ 2 ^ 149 * b) : absLe b (mul32 x k) :=
  mul32_comm hx.1 hk ▸ mul32_absLe hk hx hb h

/-- A running sum of values of at most b each. -/
theorem foldl_add32_absLe {α : Type} {f : α → Word} {b : Nat} {xs : List α} (hf : ∀ x ∈ xs, absLe b (f x)) {a : Nat}
    {acc : Word} (hacc : absLe a acc) (hab : a + xs.length * b ≤ 2 ^ 24) :
    absLe (a + xs.length * b) (xs.foldl (fun r x => add32 r (f x)) acc) := by
  induction xs generalizing a acc with
  | nil => simpa using hacc
  | cons x xs ih =>
    obtain ⟨hx, hxs⟩ := List.forall_mem_cons.1 hf
    have hlen : a + (x :: xs).length * b = a + b + xs.length * b := by rw [List.length_cons]; ring
    rw [hlen] at hab ⊢
    exact ih hxs (add32_absLe hacc hx (by omega)) hab

/-! ### Gains in [0, 1] -/

/-- The word is a gain: its value lies in [0, 1]. -/
def UnitGain (w : Word) : Prop := Between one32 (toFix w)

theorem unitGain_iff {w : Word} : UnitGain w ↔ 0 ≤ toFix w ∧ toFix w ≤ 2 ^ 149 := by
  rw [UnitGain, between_iff, toFix_one32]
  omega

theorem UnitGain.absLe_one {w : Word} (h : UnitGain w) : absLe 1 w :=
  absLe_one_iff.2 (fixMag_one32 ▸ h.fixMag_le)

/-- A clamp to [0, hi] lies between 0 and hi. -/
theorem between_clampf {hi : Word} (h : le32 zero32 hi = true) (x : Word) : Between hi (toFix (clampf x zero32 hi)) := by
  obtain ⟨hlo, hhi⟩ := clampf_between h x
  exact between_iff.2 (.inl ⟨toFix_le_of_le32 hlo, toFix_le_of_le32 hhi⟩)

theorem unitGain_clampUnit (x : Word) : UnitGain (clampUnit x) := between_clampf (by decide) x

theorem UnitGain.complement {w : Word} (h : UnitGain w) : UnitGain (sub32 one32 w) := by
  refine (sub32_roundsTo (by decide) h.absLe_one.1).between ?_
  rw [unitGain_iff] at h
  rw [between_iff, toFix_one32]
  omega

theorem UnitGain.mul {k w : Word} (hk : UnitGain k) (hw : UnitGain w) : UnitGain (mul32 k w) :=
  Between.trans hw (mul32_between hk.absLe_one (unitGain_iff.1 hk).1 hw.absLe_one)

/-- A gain raises no bound. -/
theorem UnitGain.absLe_mul32 {k x : Word} (hk : UnitGain k) {b : Nat} (hx : absLe b x) (hb : b ≤ 2 ^ 24) :
    absLe b (mul32 k x) :=
  mul32_absLe hk.absLe_one.1 hx hb (Nat.mul_le_mul_right _ (absLe_one_iff.1 hk.absLe_one))

theorem UnitGain.absLe_mul32_right {k x : Word} (hk : UnitGain k) {b : Nat} (hx : absLe b x) (hb : b ≤ 2 ^ 24) :
    absLe b (mul32 x k) := mul32_comm hx.1 hk.absLe_one.1 ▸ hk.absLe_mul32 hx hb

/-- A value that is not negative has its sign bit set only as -0.0. -/
theorem fixMag_eq_zero_of_signBit {w : Word} (h : 0 ≤ toFix w) (hsign : signBit w = true) : fixMag w = 0 := by
  rw [toFix, if_pos hsign] at h
  omega

theorem toFix_mul32_nonneg {a b : Word} (ha : isFinite a = true) (hb : isFinite b = true) (ha0 : 0 ≤ toFix a)
    (hb0 : 0 ≤ toFix b) : 0 ≤ toFix (mul32 a b) := by
  rw [mul32_finite ha hb, toFix_pack _ (roundMag_lt _ _)]
  split
  case isFalse => exact Int.natCast_nonneg _
  case isTrue hsigns =>
    have hzero : fixMag a * fixMag b = 0 := by
      cases hsign : signBit a with
      | true => rw [fixMag_eq_zero_of_signBit ha0 hsign, zero_mul]
      | false =>
        have hsignb : signBit b = true := by simpa [signBit, show a.msb = false from hsign] using hsigns
        rw [fixMag_eq_zero_of_signBit hb0 hsignb, mul_zero]
    rw [hzero]
    decide

/-- Half of 1 - w is a gain for every w in [-1, 1], since 1 - w lies in [0, 2]. -/
theorem unitGain_half_complement {w : Word} (h : absLe 1 w) : UnitGain (mul32 (sub32 one32 w) half32) := by
  have hw := natAbs_toFix w ▸ absLe_one_iff.1 h
  have htwo : toFix 0x40000000#32 = 2 ^ 150 := by decide
  have hpos : 0 ≤ toFix (sub32 one32 w) := by
    have hbetween : Between 0x40000000#32 (toFix (sub32 one32 w)) :=
      (sub32_roundsTo (by decide) h.1).between (by rw [between_iff, toFix_one32, htwo]; omega)
    rw [between_iff, htwo] at hbetween
    omega
  have hsub : absLe 2 (sub32 one32 w) := sub32_absLe (by decide) h (by decide)
  have hone : absLe 1 (mul32 (sub32 one32 w) half32) :=
    mul32_absLe_right (by decide) hsub (by decide) (by decide)
  have hval := toFix_le_fixMag (mul32 (sub32 one32 w) half32)
  have hmag := absLe_one_iff.1 hone
  exact unitGain_iff.2 ⟨toFix_mul32_nonneg hsub.1 (by decide) hpos (by decide), by omega⟩

end Sys2Proof.Machine
end

section
/-! PROOFS. The values of the post chain stay in their bounds, for the parameters of the value column of R8 with its OPEN ones
free (44_post_chain.md R283 to R286). -/

namespace Sys2Proof.Machine

/-! ### The mixer -/

/-- The parameters of the mixer in a configuration that meets R8 (P1, P13). -/
theorem configOk_mixer {c : Config} (h : configOk c = true) : c.nVoices ≤ 16 ∧ UnitGain c.headroom := by
  obtain ⟨hvoices, hle, hpos⟩ : c.nVoices ≤ 16 ∧ le32 c.headroom one32 = true ∧ 0 < toFix c.headroom := by
    simp only [configOk, unitsOk, gainsOk, inPositive, Bool.and_eq_true, decide_eq_true_eq] at h
    tauto
  have hone := toFix_le_of_le32 hle
  rw [toFix_one32] at hone
  exact ⟨hvoices, unitGain_iff.2 ⟨hpos.le, hone⟩⟩

theorem waveOut_absLe {c : Config} (hc : configOk c = true) (w : Waveform) (p : Word) : absLe 1 (waveOut c w p) := by
  obtain ⟨hsin, -, htri, hsaw, -⟩ := waveformsStayInRange c p hc
  cases w with
  | sine => exact hsin
  | triangle => exact htri
  | sawtooth => exact hsaw

theorem voiceSum_absLe {vs : List Voice} (hlen : vs.length ≤ 16) (h : ∀ v ∈ vs, v.bounded) : absLe 16 (voiceSum vs) := by
  have hout : ∀ v ∈ vs, absLe 1 v.vout := fun v hv => by
    obtain ⟨-, -, hvout⟩ := h v hv
    exact hvout
  exact absLe_mono (foldl_add32_absLe hout (absLe_zero32 0) (by omega)) (by omega)

theorem unitGain_tremGain (g : GlobalParams) {l1 : Word} (h : absLe 1 l1) : UnitGain (tremGain g l1) :=
  ((unitGain_clampUnit g.tremDepth).mul (unitGain_half_complement h)).complement

/-- Headroom and tremolo raise no magnitude (R283). -/
theorem mix_absLe {c : Config} (hc : configOk c = true) (ctrl : Word) (g : GlobalParams) {l1 : Word} (hl1 : absLe 1 l1)
    {vs : List Voice} (hsum : absLe 16 (voiceSum vs)) : absLe 16 (mix c ctrl g l1 vs) := by
  have hscaled := (configOk_mixer hc).2.absLe_mul32_right hsum (by decide)
  unfold mix
  simp only
  split
  · exact (unitGain_tremGain g hl1).absLe_mul32_right hscaled (by decide)
  · exact hscaled

theorem tickSum_absLe {s : State} (hinv : s.Inv) (hs : s.VoicesBounded) : absLe 16 (tickSum s) := by
  obtain ⟨hc, hlen, -⟩ := hinv
  refine mix_absLe hc _ _ (waveOut_absLe hc _ _) (voiceSum_absLe ?length ?voices)
  case length => rw [tickVoices, List.length_map, hlen]; exact (configOk_mixer hc).1
  case voices => exact List.forall_mem_map.2 fun v hv => voiceStep_bounded hc _ _ _ _ (hs v hv)

/-! ### The DC blocker -/

/-- K = 0.995 takes an output of 8192 below 8160, and the difference of two sums adds at most 32 (R283). -/
theorem dcBlock_absLe {c : Config} (h : instanceButOpen c) {x x1 y1 : Word} (hx : absLe 16 x) (hx1 : absLe 16 x1)
    (hy1 : absLe 8192 y1) : absLe 8192 (dcBlock c x x1 y1) := by
  have hk : c.dcK = 0x3F7EB852#32 := congrArg Config.dcK h
  have hdecay : absLe 8160 (mul32 c.dcK y1) := by
    rw [hk]
    exact mul32_absLe (by decide) hy1 (by decide) (by decide)
  exact add32_absLe (sub32_absLe hx hx1 (by decide)) hdecay (by decide)

/-! ### The combs -/

/-- The bounds of a comb: its cells and its lowpass (R284). -/
abbrev Comb.bounded (x : Comb) : Prop := Memory.bounded 524288 x.buf ∧ absLe 524800 x.lp

/-- The rounded 1 - REV_DAMP and REV_DAMP add up to a little over 1, so the bound on the lowpass is a little over that on
the cells (R284). -/
theorem Comb.nextLp_absLe {c : Config} (h : instanceButOpen c) {x : Comb} (hx : x.bounded) :
    absLe 524800 (x.nextLp c) := by
  have hdamp : c.revDamp = 0x3E4CCCCD#32 := congrArg Config.revDamp h
  obtain ⟨hbuf, hlp⟩ := hx
  have hfresh : absLe 419431 (mul32 x.out (sub32 one32 c.revDamp)) := by
    rw [hdamp]
    exact mul32_absLe_right (by decide) (Memory.read_absLe hbuf x.idx) (by decide) (by decide)
  have hstate : absLe 104961 (mul32 x.lp c.revDamp) := by
    rw [hdamp]
    exact mul32_absLe_right (by decide) hlp (by decide) (by decide)
  exact absLe_mono (add32_absLe hfresh hstate (by decide)) (by decide)

/-- The feedback is at most REV_FB_MAX = 0.98, so what is stored is at most 8192 + 0.98 * 524800 (R284). -/
theorem Comb.step_bounded {c : Config} (h : instanceButOpen c) (g : GlobalParams) {e : Word} (he : absLe 8192 e) (n : Nat)
    {x : Comb} (hx : x.bounded) : (x.step c (reverbFb c g) e n).bounded := by
  have hmax : c.revFbMax = 0x3F7AE148#32 := congrArg Config.revFbMax h
  have hlp := x.nextLp_absLe h hx
  have hfb : fixMag (reverbFb c g) ≤ fixMag 0x3F7AE148#32 := by
    rw [reverbFb, hmax]
    exact (between_clampf (by decide) g.revFb).fixMag_le
  have hback : absLe 516096 (mul32 (x.nextLp c) (reverbFb c g)) :=
    mul32_absLe_right (isFinite_of_fixMag_le (by decide) hfb) hlp (by decide)
      ((Nat.mul_le_mul_right _ hfb).trans (by decide))
  exact ⟨Memory.write_bounded hx.1 _ (add32_absLe he hback (by decide)), hlp⟩

/-- Four combs, scaled by 1/4 (R284). -/
theorem combSum_absLe {c : Config} (h : instanceButOpen c) {xs : List Comb} (hlen : c.combLen.length = xs.length)
    (hxs : ∀ x ∈ xs, x.bounded) : absLe 524288 (combSum c xs) := by
  have hscale : c.combScale = 0x3E800000#32 := congrArg Config.combScale h
  have hfour : c.combLen.length = 4 := congrArg (fun d => d.combLen.length) h
  have hout : ∀ x ∈ xs, absLe 524288 x.out := fun x hx => Memory.read_absLe (hxs x hx).1 x.idx
  have hsum := foldl_add32_absLe hout (absLe_zero32 0) (by omega)
  rw [← hlen, hfour] at hsum
  rw [combSum, hscale]
  exact mul32_absLe_right (by decide) hsum (by decide) (by decide)

/-! ### The allpasses and the mix -/

/-- An allpass with gain 1/2, on an input of at most a: its cells stay at most 2a, and it returns at most 3a (R284). -/
theorem Allpass.store_out_absLe {g w : Word} (hfinite : isFinite g = true) (hg : fixMag g = 2 ^ 148) {a : Nat}
    (ha : 3 * a ≤ 2 ^ 24) (hw : absLe a w) {x : Allpass} (hx : Memory.bounded (2 * a) x.buf) :
    absLe (2 * a) (x.store g w) ∧ absLe (3 * a) (x.out g w) := by
  have half : ∀ {y}, absLe (2 * a) y → absLe a (mul32 g y) := fun hy =>
    mul32_absLe hfinite hy (by omega) (by rw [hg]; omega)
  have hcell := Memory.read_absLe hx x.idx
  have hstore : absLe (2 * a) (x.store g w) := absLe_mono (add32_absLe hw (half hcell) (by omega)) (by omega)
  exact ⟨hstore, absLe_mono (sub32_absLe hcell (half hstore) (by omega)) (by omega)⟩

/-- The bounds of the two allpasses: twice what each is given (R284). -/
abbrev AllpassesBounded (xs : List Allpass) : Prop :=
  List.Forall₂ (fun b x => Memory.bounded b x.buf) [2 ^ 20, 3 * 2 ^ 20] xs

/-- Each allpass triples the bound of its input and keeps that of its cells (R284). -/
theorem allpasses_bounded {c : Config} (h : instanceButOpen c) {w : Word} (hw : absLe (2 ^ 19) w) {xs : List Allpass}
    (hxs : AllpassesBounded xs) :
    AllpassesBounded (allpassSteps c.apG w c.apLen xs) ∧ absLe (9 * 2 ^ 19) (allpassOut c.apG w xs) := by
  have hg : c.apG = half32 := congrArg Config.apG h
  have hlen : c.apLen = [556, 441] := congrArg Config.apLen h
  rw [hg, hlen]
  cases hxs with
  | @cons _ x _ _ hx hrest =>
    cases hrest with
    | @cons _ y _ _ hy hnil =>
      cases hnil
      have hval : fixMag half32 = 2 ^ 148 := by decide
      obtain ⟨hxstore, hxout⟩ := x.store_out_absLe (by decide) hval (by decide) hw hx
      obtain ⟨hystore, hyout⟩ := y.store_out_absLe (by decide) hval (by decide) hxout hy
      exact ⟨.cons (Memory.write_bounded hx _ hxstore) (.cons (Memory.write_bounded hy _ hystore) .nil), hyout⟩

/-- The wet and the dry signal, each with a gain (R284). -/
theorem dryWet_absLe (g : GlobalParams) {e wet : Word} (he : absLe 8192 e) (hwet : absLe (9 * 2 ^ 19) wet) :
    absLe (2 ^ 23) (dryWet g e wet) := by
  have hmix := unitGain_clampUnit g.revMix
  have hsum := add32_absLe (hmix.complement.absLe_mul32 he (by decide)) (hmix.absLe_mul32 hwet (by decide)) (by decide)
  exact absLe_mono hsum (by decide)

/-! ### The saturation -/

/-- The drive of at most 16 keeps the operand of Tanh32 finite, and the makeup gain does not leave [-1, 1] (R285). -/
theorem saturate_absLe {c : Config} (h : instanceButOpen c) (g : GlobalParams) {r : Word} (hr : absLe (2 ^ 23) r) :
    absLe 1 (saturate c g r) := by
  have hdriveMax : c.driveMax = 0x41800000#32 := congrArg Config.driveMax h
  have hmakeupMax : c.makeupMax = one32 := congrArg Config.makeupMax h
  have hdrive : fixMag (clampf g.drive zero32 c.driveMax) ≤ fixMag 0x41800000#32 := by
    rw [hdriveMax]
    exact (between_clampf (by decide) g.drive).fixMag_le
  have hdriven : fixMag (mul32 r (clampf g.drive zero32 c.driveMax)) ≤ fixMag 0x4D000000#32 :=
    fixMag_mul32_le hr.1 (isFinite_of_fixMag_le (by decide) hdrive) ((Nat.mul_le_mul hr.2 hdrive).trans (by decide))
  have htanh := (tanhHasItsProperties.2 c _ (isFinite_of_fixMag_le (by decide) hdriven)).1
  have hmakeup : UnitGain (clampf g.makeup zero32 c.makeupMax) := by
    rw [hmakeupMax]
    exact unitGain_clampUnit g.makeup
  exact hmakeup.absLe_mul32_right htanh (by decide)

/-! ### A step -/

/-- The bounds of the post chain and of the outputs together, which every step keeps. -/
abbrev State.AudioBounded (s : State) : Prop := s.PostBounded ∧ s.OutBounded

theorem silentTick_audioBounded {s : State} (h : s.AudioBounded) : (silentTick s).AudioBounded :=
  ⟨h.1, absLe_zero32 1, absLe_zero32 1, absLe_zero32 1, absLe_zero32 1⟩

theorem tickCombs_bounded {s : State} (h : instanceButOpen s.cfg) (hcombs : ∀ x ∈ s.combs, x.bounded)
    (he : absLe 8192 (tickDc s)) : ∀ x ∈ tickCombs s, x.bounded := by
  unfold tickCombs
  split
  case isFalse => exact hcombs
  case isTrue =>
    intro y hy
    obtain ⟨k, hk⟩ := List.mem_iff_getElem?.1 hy
    obtain ⟨n, x, -, hx, rfl⟩ := List.getElem?_zipWith_eq_some.1 hk
    exact Comb.step_bounded h _ he n (hcombs x (List.mem_of_getElem? hx))

theorem tickAllpasses_bounded {s : State} (h : instanceButOpen s.cfg) (hw : absLe (2 ^ 19) (combSum s.cfg s.combs))
    (haps : AllpassesBounded s.allpasses) : AllpassesBounded (tickAllpasses s) := by
  unfold tickAllpasses
  split
  · exact (allpasses_bounded h hw haps).1
  · exact haps

theorem tickRev_absLe {s : State} (h : instanceButOpen s.cfg) (hw : absLe (2 ^ 19) (combSum s.cfg s.combs))
    (haps : AllpassesBounded s.allpasses) (he : absLe 8192 (tickDc s)) : absLe (2 ^ 23) (tickRev s) := by
  unfold tickRev
  split
  · exact dryWet_absLe _ he (allpasses_bounded h hw haps).2
  · exact absLe_mono he (by decide)

/-- Stage by stage down the chain. -/
theorem enabledTick_audioBounded {s : State} (hinv : s.Inv) (hvoices : s.VoicesBounded) (hpost : s.PostBounded)
    (h : instanceButOpen s.cfg) : (enabledTick s).AudioBounded := by
  have ⟨_, _, _, hcombsOk, _⟩ := hinv
  obtain ⟨hx1, hy1, -, -, -, hcombs, haps⟩ := hpost
  have hm := tickSum_absLe hinv hvoices
  have he : absLe 8192 (tickDc s) := dcBlock_absLe h hm hx1 hy1
  have hw := combSum_absLe h hcombsOk.length_eq hcombs
  have hr := tickRev_absLe h hw haps he
  have hz : absLe 1 (tickOut s) := saturate_absLe h _ hr
  simp only [State.AudioBounded, State.PostBounded, State.OutBounded, enabledTick_dcX1, enabledTick_dcY1,
    enabledTick_tapSum, enabledTick_tapDc, enabledTick_tapRev, enabledTick_combs, enabledTick_allpasses, enabledTick_outL,
    enabledTick_outR, enabledTick_portL, enabledTick_portR]
  exact ⟨⟨hm, he, hm, he, hr, tickCombs_bounded h hcombs he, tickAllpasses_bounded h hw haps⟩, hz, hz, hz, hz⟩

theorem clear_audioBounded {s : State} (h : s.AudioBounded) : s.quiet.clear.AudioBounded := by
  obtain ⟨⟨-, -, -, -, -, -, haps⟩, -, -, hportL, hportR⟩ := h
  refine ⟨⟨absLe_zero32 _, absLe_zero32 _, absLe_zero32 _, absLe_zero32 _, absLe_zero32 _, ?combs, ?allpasses⟩,
    absLe_zero32 1, absLe_zero32 1, hportL, hportR⟩
  case combs => exact List.forall_mem_map.2 fun _ _ => ⟨Memory.bounded_nil _, absLe_zero32 _⟩
  case allpasses => exact List.forall₂_map_right_iff.2 (haps.imp fun _ _ _ => Memory.bounded_nil _)

theorem RegisterEffect.audioBounded {s t : State} (h : RegisterEffect s t) (hs : s.AudioBounded) : t.AudioBounded := by
  obtain ⟨-, -, hcombs, haps, hx1, hy1, -, houtL, houtR, hsum, hdc, hrev, hportL, hportR⟩ := h.sameSignals
  rwa [State.AudioBounded, State.PostBounded, State.OutBounded, hcombs, haps, hx1, hy1, houtL, houtR, hsum, hdc, hrev,
    hportL, hportR]

theorem exec_audioBounded {i : Instr} {s t : State} (hinv : s.Inv) (hvoices : s.VoicesBounded) (hs : s.AudioBounded)
    (hcfg : instanceButOpen s.cfg) (h : exec i s = .next t) : t.AudioBounded := by
  cases exec_effect h with
  | tick _ ht =>
    rcases tick_cases ht with ⟨-, rfl⟩ | ⟨-, -, rfl⟩
    · exact silentTick_audioBounded hs
    · exact enabledTick_audioBounded hinv hvoices hs.1 hcfg
  | commit _ ht => exact ht ▸ hs
  | clear _ ht => exact ht ▸ clear_audioBounded hs
  | reset _ ht => exact ht ▸ ⟨State.resetOf_postBounded hcfg, State.resetOf_outBounded s.cfg⟩
  | register _ hr => exact hr.audioBounded hs

/-- Settles O60: a wait changes nothing, and every operation keeps the bounds and the parameters. -/
theorem stepKeepsAudioBounded : Obligations.StepKeepsAudioBounded := by
  intro s t hinv hvoices hpost hout hcfg h
  rcases step_cases h with ⟨-, rfl⟩ | ⟨e, es, -, hexec⟩
  · exact ⟨hpost, hout, hcfg⟩
  · obtain ⟨hpost', hout'⟩ :=
      exec_audioBounded (s := { s with events := es }) hinv hvoices ⟨hpost, hout⟩ hcfg hexec
    obtain ⟨hsame, -⟩ := operationsKeepParametersAndEvents _ _ _ hexec
    exact ⟨hpost', hout', by rwa [hsame]⟩

end Sys2Proof.Machine
end

section
/-! PROOFS. Which operation sets which STATUS bit (60_exceptions.md R301, R302): the events are listed once, as a
relation between an operation and a bit; `exec` sets the listed bit and raises no other. -/

namespace Sys2Proof.Machine

/-! ### The events -/

/-- The events of 60_exceptions.md R301 in the state s, each with the STATUS bit that it sets. -/
inductive RaisesFlag (s : State) : Instr → Nat → Prop where
  | roWrite (a : BitVec 12) (d : Word) : RaisesFlag s (.roWrite a d) busErr
  | invalid (w : Bool) (r : BitVec 3) (a : BitVec 12) (d : Word) : RaisesFlag s (.invalid w r a d) busErr
  | cmdReserved (d : Word) : RaisesFlag s (.cmdReserved d) cmdErr
  | cmdTick (hsrc : ctrlTickSrc s.ctrl = false) : RaisesFlag s .cmdTick cmdErr
  | strobeDrop (hsrc : ctrlTickSrc s.ctrl = false) : RaisesFlag s .strobeDrop overrun

theorem raisesFlag_iff {s : State} {i : Instr} {b : Nat} :
    RaisesFlag s i b ↔
      (b = 0 ∧ ((∃ a d, i = .roWrite a d) ∨ ∃ w r a d, i = .invalid w r a d)) ∨
      (b = 1 ∧ ((∃ d, i = .cmdReserved d) ∨ (i = .cmdTick ∧ s.ctrl.getLsbD 1 = false))) ∨
      (b = 2 ∧ i = .strobeDrop ∧ s.ctrl.getLsbD 1 = false) := by
  constructor
  · intro h
    cases h with
    | roWrite a d => exact .inl ⟨rfl, .inl ⟨a, d, rfl⟩⟩
    | invalid w r a d => exact .inl ⟨rfl, .inr ⟨w, r, a, d, rfl⟩⟩
    | cmdReserved d => exact .inr (.inl ⟨rfl, .inl ⟨d, rfl⟩⟩)
    | cmdTick hsrc => exact .inr (.inl ⟨rfl, .inr ⟨rfl, hsrc⟩⟩)
    | strobeDrop hsrc => exact .inr (.inr ⟨rfl, rfl, hsrc⟩)
  · rintro (⟨rfl, ⟨a, d, rfl⟩ | ⟨w, r, a, d, rfl⟩⟩ | ⟨rfl, ⟨d, rfl⟩ | ⟨rfl, hsrc⟩⟩ | ⟨rfl, rfl, hsrc⟩)
    · exact .roWrite a d
    · exact .invalid w r a d
    · exact .cmdReserved d
    · exact .cmdTick hsrc
    · exact .strobeDrop hsrc

/-- Every event sets one bit. -/
theorem RaisesFlag.unique {s : State} {i : Instr} {b k : Nat} (hb : RaisesFlag s i b) (hk : RaisesFlag s i k) : k = b := by
  cases hb <;> cases hk <;> rfl

/-- The bits are those of STATUS (10_state.md R53). -/
theorem RaisesFlag.lt {s : State} {i : Instr} {b : Nat} (h : RaisesFlag s i b) : b < 3 := by cases h <;> decide

theorem State.flag_status_getLsbD (s : State) {b : Nat} (hb : b < 32) (k : Nat) :
    (s.flag b).status.getLsbD k = (s.status.getLsbD k || decide (k = b)) := by
  rw [State.flag_status, BitVec.getLsbD_or, ← BitVec.twoPow_eq, BitVec.getLsbD_twoPow]
  simp [hb, eq_comm]

/-! ### The operations that set a bit -/

theorem exec_status_of_raisesFlag {i : Instr} {s t : State} {b : Nat} (hflag : RaisesFlag s i b)
    (h : exec i s = .next t) : t.status = (s.flag b).status := by
  cases hflag with
  | roWrite | invalid | cmdReserved => cases h; rfl
  | cmdTick hsrc =>
    obtain ⟨herror, -⟩ := tickSourcesAndSilentTick.2 s
    rw [herror hsrc] at h
    cases h
    rfl
  | strobeDrop hsrc =>
    obtain ⟨hcounted, -⟩ := strobeDropSetsOverrun.2 s
    rw [hcounted hsrc] at h
    cases h
    rfl

/-! ### The operations that set none -/

/-- No STATUS bit goes from 0 to 1. -/
def NoFlagRises (s t : State) : Prop := ∀ k, s.status.getLsbD k = false → t.status.getLsbD k = false

theorem NoFlagRises.of_status_eq {s t : State} (h : t.status = s.status) : NoFlagRises s t := fun _ hk => h ▸ hk

theorem tick_status {s t : State} (h : tick s = .next t) : t.status = s.status := by
  rcases tick_cases h with ⟨-, rfl⟩ | ⟨-, -, rfl⟩
  · exact silentTick_status s
  · exact enabledTick_status s

theorem read_status {i : Instr} {s t : State} (hread : isRead i = true) (hwf : Instr.wf s.voices.length i = true)
    (h : exec i s = .next t) : t.status = s.status := by
  obtain ⟨w, hw⟩ := validReadsHaveNoSideEffect i s hread hwf
  rw [hw] at h
  cases h
  rfl

theorem writeLfo_status {i : BitVec 2} (hi : lfoIndexOk i = true) {f : Lfo → Lfo} {s t : State}
    (h : writeLfo i f s = .next t) : t.status = s.status := by
  obtain ⟨x, hx⟩ := s.lfos.exists_get hi
  rw [writeLfo_of_get hx] at h
  cases h
  rfl

theorem writeVoice_status {s t : State} {v : BitVec 4} (hv : voiceIndexOk s.voices.length v = true) {f : Voice → Voice}
    (h : writeVoice v f s = .next t) : t.status = s.status := by
  obtain ⟨x, hx⟩ := exists_voice hv
  rw [writeVoice_of_getElem? hx] at h
  cases h
  rfl

theorem statusWritten_getLsbD_eq_false {w : Word} (d : Word) {k : Nat} (hk : w.getLsbD k = false) :
    (statusWritten w d).getLsbD k = false := by
  rw [statusWritten, BitVec.getLsbD_and, hk, Bool.false_and]

theorem strobe_status {s t : State} (h : execStrobe s = .next t) : t.status = s.status := by
  unfold execStrobe at h
  split at h
  · rw [update_next h, State.quiet_status]
  · exact tick_status h

/-- What is not on the list of R301 raises no bit; well-formedness excludes the unmapped LFO and voice blocks, whose accesses
are INVALID's. -/
theorem exec_noFlagRises {i : Instr} {s t : State} (hwf : Instr.wf s.voices.length i = true)
    (hflag : ∀ b, ¬ RaisesFlag s i b) (h : exec i s = .next t) : NoFlagRises s t := by
  by_cases hread : isRead i = true
  · exact .of_status_eq (read_status hread hwf h)
  cases i with
  | wrStatus d => cases h; exact fun _ => statusWritten_getLsbD_eq_false d
  | reset => cases h; exact fun _ _ => BitVec.getLsbD_zero
  | cmdNop | cmdCommit | cmdClear | wrCtrl | wrTrig | wrDlSel | wrVibDepth | wrTremDepth | wrToneDepth | wrRevFb
  | wrRevMix | wrDrive | wrMakeup =>
    cases h; exact .of_status_eq rfl
  | wrLfoFreq => exact .of_status_eq (writeLfo_status hwf h)
  | wrVFreq | wrVDamp | wrVBright | wrVSeed => exact .of_status_eq (writeVoice_status hwf h)
  | strobe => exact .of_status_eq (strobe_status h)
  | cmdTick =>
    have hsrc : ctrlTickSrc s.ctrl = true := Bool.eq_true_of_not_eq_false fun hoff => hflag _ (.cmdTick hoff)
    exact .of_status_eq (tick_status ((exec_eq_tick (i := .cmdTick) hsrc).symm.trans h))
  | strobeDrop =>
    have hsrc : ctrlTickSrc s.ctrl = true := Bool.eq_true_of_not_eq_false fun hoff => hflag _ (.strobeDrop hoff)
    obtain ⟨-, hignored⟩ := strobeDropSetsOverrun.2 s
    rw [hignored hsrc] at h
    cases h
    exact .of_status_eq rfl
  | roWrite a d => exact absurd (.roWrite a d) (hflag _)
  | invalid w r a d => exact absurd (.invalid w r a d) (hflag _)
  | cmdReserved d => exact absurd (.cmdReserved d) (hflag _)
  | _ => exact absurd rfl hread

/-- Settles O53: an event of R301 sets its bit and no other, and any other operation raises none. -/
theorem statusBitsSetOnlyByNamedEvents : Obligations.StatusBitsSetOnlyByNamedEvents := by
  intro i s t k hwf h hk
  rw [← raisesFlag_iff]
  by_cases hevent : ∃ b, RaisesFlag s i b
  · obtain ⟨b, hb⟩ := hevent
    have hbit : t.status.getLsbD k = decide (k = b) := by
      rw [exec_status_of_raisesFlag hb h, s.flag_status_getLsbD (hb.lt.trans (by decide)), hk, Bool.false_or]
    rw [hbit, decide_eq_true_iff]
    exact ⟨fun hkb => hkb ▸ hb, hb.unique⟩
  · rw [exec_noFlagRises hwf (not_exists.1 hevent) h k hk]
    exact ⟨fun hfalse => absurd hfalse Bool.false_ne_true, fun hraise => absurd ⟨k, hraise⟩ hevent⟩

end Sys2Proof.Machine
end

section
/-! PROOFS. The block cannot lock up (60_exceptions.md R314): only a tick that lacks a cell stops, and the invariant keeps
every index in range. -/

namespace Sys2Proof.Machine

/-! ### Every cell exists -/

theorem indicesIn_of_forall₂ {α : Type} {f : α → Nat} {ns : List Nat} {xs : List α}
    (h : List.Forall₂ (fun n x => f x < n) ns xs) : indicesIn (xs.map f) ns = true := by
  induction h with
  | nil => rfl
  | cons hx _ ih =>
    rw [List.map_cons, indicesIn, ih, Bool.and_true]
    exact decide_eq_true hx

theorem Voice.ok.indexed {c : Config} {v : Voice} (h : Voice.ok c v) : v.indexed c = true := by
  obtain ⟨-, hmax, hpos, -⟩ := h
  rw [Voice.indexed, decide_eq_true hpos, decide_eq_true hmax, Bool.and_self]

/-- The invariant's indices in range are those that an enabled tick checks (10_state.md R58). -/
theorem State.Inv.indexed {s : State} (h : s.Inv) : s.indexed = true := by
  obtain ⟨-, -, hvoices, hcombs, haps, -⟩ := h
  have hv : s.voices.all (Voice.indexed s.cfg) = true := List.all_eq_true.2 fun v hv => (hvoices v hv).indexed
  have hc : indicesIn (s.combs.map Comb.idx) s.cfg.combLen = true := indicesIn_of_forall₂ (hcombs.imp fun _ _ hx => hx.1)
  have ha : indicesIn (s.allpasses.map Allpass.idx) s.cfg.apLen = true :=
    indicesIn_of_forall₂ (haps.imp fun _ _ hx => hx.1)
  rw [State.indexed, hv, hc, ha]
  rfl

/-! ### Every operation answers -/

theorem tick_answers {s : State} (h : s.indexed = true) : ∃ t, tick s = .next t := by
  unfold tick
  rw [h]
  split <;> exact ⟨_, rfl⟩

theorem readLfo_answers (i : BitVec 2) (f : Lfo → Word) (s : State) : ∃ t, readLfo i f s = .next t := by
  unfold readLfo
  split <;> exact ⟨_, rfl⟩

theorem writeLfo_answers (i : BitVec 2) (f : Lfo → Lfo) (s : State) : ∃ t, writeLfo i f s = .next t := by
  unfold writeLfo
  split <;> exact ⟨_, rfl⟩

theorem readVoice_answers (v : BitVec 4) (f : Voice → Word) (s : State) : ∃ t, readVoice v f s = .next t := by
  unfold readVoice
  split <;> exact ⟨_, rfl⟩

theorem writeVoice_answers (v : BitVec 4) (f : Voice → Voice) (s : State) : ∃ t, writeVoice v f s = .next t := by
  unfold writeVoice
  split <;> exact ⟨_, rfl⟩

theorem execCmdTick_answers {s : State} (h : s.indexed = true) : ∃ t, execCmdTick s = .next t := by
  unfold execCmdTick
  split
  · exact tick_answers h
  · exact ⟨_, rfl⟩

theorem execStrobe_answers {s : State} (h : s.indexed = true) : ∃ t, execStrobe s = .next t := by
  unfold execStrobe
  split
  · exact ⟨_, rfl⟩
  · exact tick_answers h

theorem execStrobeDrop_answers (s : State) : ∃ t, execStrobeDrop s = .next t := by
  unfold execStrobeDrop
  split <;> exact ⟨_, rfl⟩

/-- Where every cell exists, every operation answers, well-formed or not. -/
theorem exec_answers {s : State} (h : s.indexed = true) (i : Instr) : ∃ t, exec i s = .next t := by
  cases i with
  | cmdTick => exact execCmdTick_answers h
  | strobe => exact execStrobe_answers h
  | strobeDrop => exact execStrobeDrop_answers s
  | rdLfoFreq | rdLfoPhase | rdLfoOut | rdLfoCos => exact readLfo_answers _ _ s
  | wrLfoFreq => exact writeLfo_answers _ _ s
  | rdVFreq | rdVDamp | rdVBright | rdVLen | rdVPos | rdVFilt | rdVOut | rdVSeed => exact readVoice_answers _ _ s
  | wrVFreq | wrVDamp | wrVBright | wrVSeed => exact writeVoice_answers _ _ s
  | _ => exact ⟨_, rfl⟩

/-- Settles O58: a step is a wait or one operation, and no operation stops where every cell exists. -/
theorem stepNeverStops : Obligations.StepNeverStops := by
  intro s hs
  cases hes : s.events with
  | nil => exact ⟨s, stepRunsNextEvent.2 s hes⟩
  | cons e es =>
    rw [stepRunsNextEvent.1 s e es hes]
    exact exec_answers (s := { s with events := es }) hs.indexed _

end Sys2Proof.Machine
end

section
/-! PROOFS. RESET (70_reset_and_hazards.md R320, R321): every field at its reset value, what the instance then reads back,
and the symmetries of its sine table (42_lfo_bank.md R224). -/

namespace Sys2Proof.Machine

/-! ### The reset state, unit by unit -/

theorem execReset_eq (s : State) : execReset s = .next { State.resetOf s.cfg with events := s.events } := rfl

theorem State.resetOf_voices_getElem? {c : Config} {k : Nat} {p : VoiceConfig} (h : c.voices[k]? = some p) :
    (State.resetOf c).voices[k]? = some (Voice.reset c p) := by
  rw [State.resetOf, List.getElem?_map, h, Option.map_some]

theorem LfoBank.eq_of_get_reset {i : BitVec 2} {x : Lfo} (h : LfoBank.reset.get i = some x) : x = Lfo.reset := by
  rcases bitVec2_cases i with rfl | rfl | rfl | rfl <;> cases h <;> rfl

theorem State.eq_clear_of_mem_resetOf_combs {c : Config} {x : Comb} (h : x ∈ (State.resetOf c).combs) :
    x = Comb.clear := by
  obtain ⟨-, -, rfl⟩ := List.mem_map.1 h; rfl

theorem State.eq_clear_of_mem_resetOf_allpasses {c : Config} {x : Allpass} (h : x ∈ (State.resetOf c).allpasses) :
    x = Allpass.clear := by
  obtain ⟨-, -, rfl⟩ := List.mem_map.1 h; rfl

/-- Settles O25: the next state is `State.resetOf` of the parameters, whose units are each at their reset value. -/
theorem resetSetsEveryField : Obligations.ResetSetsEveryField := by
  refine ⟨fun n => decodeInvertsEncode n .reset rfl, fun s => ⟨_, execReset_eq s, rfl, rfl, rfl, rfl, rfl, rfl, rfl, rfl,
    rfl, rfl, rfl, List.length_map .., ?voice, ?lfo, rfl, rfl, List.length_map .., ?comb, List.length_map .., ?allpass,
    rfl, rfl, rfl⟩⟩
  case voice =>
    intro k p hp
    exact ⟨_, State.resetOf_voices_getElem? hp, rfl, rfl, rfl, fun _ => rfl, rfl, rfl, rfl, rfl, rfl⟩
  case lfo =>
    intro i x hx
    exact LfoBank.eq_of_get_reset hx
  case comb =>
    intro x hx
    rw [State.eq_clear_of_mem_resetOf_combs hx]
    exact ⟨fun _ => rfl, rfl, rfl⟩
  case allpass =>
    intro x hx
    rw [State.eq_clear_of_mem_resetOf_allpasses hx]
    exact ⟨fun _ => rfl, rfl⟩

/-! ### The sine table: a half wave between the zeros and its negation -/

/-- SIN_LUT[1] to SIN_LUT[511]: the half wave between the two zeros of the table. -/
def sinArc : List Word := sinQuarter.drop 1 ++ one32 :: (sinQuarter.drop 1).reverse

theorem sinQuarter_eq_cons : sinQuarter = zero32 :: sinQuarter.drop 1 := by decide +kernel

theorem sinQuarter_length : sinQuarter.length = 256 := by decide +kernel

theorem sinHalf_eq_cons : sinHalf = zero32 :: sinArc := by
  rw [sinHalf, sinArc, ← List.cons_append, ← sinQuarter_eq_cons]

theorem sinTable_eq_sinArc : sinTable = zero32 :: (sinArc ++ zero32 :: sinArc.map neg32) := by
  rw [sinTable, sinHalf_eq_cons, List.drop_one, List.tail_cons, List.cons_append]

theorem sinArc_length : sinArc.length = 511 := by simp [sinArc, sinQuarter_length]

theorem sinArc_reverse : sinArc.reverse = sinArc := by simp [sinArc]

/-- The half wave is the same read backwards. -/
theorem sinArc_getElem?_mirror {j : Nat} (hj : j < 511) : sinArc[510 - j]? = sinArc[j]? := by
  conv_rhs => rw [← sinArc_reverse]
  rw [List.getElem?_reverse (sinArc_length ▸ hj), sinArc_length]

theorem sinTable_length : sinTable.length = 1024 := by simp [sinTable_eq_sinArc, sinArc_length]

theorem sinTable_getElem?_zero : sinTable[0]? = some zero32 := by rw [sinTable_eq_sinArc, List.getElem?_cons_zero]

theorem sinTable_getElem?_middle : sinTable[512]? = some zero32 := by
  rw [sinTable_eq_sinArc, List.getElem?_cons_succ, List.getElem?_append_right sinArc_length.le, sinArc_length,
    Nat.sub_self, List.getElem?_cons_zero]

/-- The seven entries that R224 prints, and the zero at 512. -/
theorem sinTable_printed_entries :
    [1, 64, 128, 256, 512, 768, 1023].map (sinTable[·]?) =
      [some 0x3BC90F88#32, some 0x3EC3EF15#32, some 0x3F3504F3#32, some 0x3F800000#32, some 0#32, some 0xBF800000#32,
        some 0xBBC90F88#32] := by
  decide +kernel

theorem sinTable_getElem?_first {j : Nat} (hj : j < 511) : sinTable[j + 1]? = sinArc[j]? := by
  rw [sinTable_eq_sinArc, List.getElem?_cons_succ, List.getElem?_append_left (sinArc_length ▸ hj)]

theorem sinTable_getElem?_second (j : Nat) : sinTable[j + 513]? = sinArc[j]?.map neg32 := by
  rw [sinTable_eq_sinArc, List.getElem?_cons_succ,
    List.getElem?_append_right (by rw [sinArc_length]; omega), sinArc_length, show j + 512 - 511 = j + 1 by omega,
    List.getElem?_cons_succ, List.getElem?_map]

/-- SIN_LUT[512 - k] = SIN_LUT[k] on the first half (42_lfo_bank.md R224). -/
theorem sinTable_mirror {k : Nat} (hk : k < 513) : sinTable[512 - k]? = sinTable[k]? := by
  rcases Nat.eq_zero_or_pos k with rfl | hpos
  · exact sinTable_getElem?_middle.trans sinTable_getElem?_zero.symm
  rcases Nat.eq_or_lt_of_le (Nat.le_of_lt_succ hk) with rfl | hlt
  · exact sinTable_getElem?_zero.trans sinTable_getElem?_middle.symm
  obtain ⟨j, rfl⟩ := Nat.exists_eq_add_of_le' hpos
  have hj : j < 511 := by omega
  rw [show 512 - (j + 1) = 510 - j + 1 by omega, sinTable_getElem?_first (by omega), sinTable_getElem?_first hj,
    sinArc_getElem?_mirror hj]

/-- SIN_LUT[1024 - k] = -SIN_LUT[k] away from the zeros (42_lfo_bank.md R224): each half mirrors the half wave, and the
second half is the first negated. -/
theorem sinTable_odd {k : Nat} (hk : k < 1024) (hzero : k ≠ 0) (hmiddle : k ≠ 512) :
    sinTable[1024 - k]? = sinTable[k]?.map neg32 := by
  rcases Nat.lt_or_gt_of_ne hmiddle with hfirst | hsecond
  · obtain ⟨j, rfl⟩ := Nat.exists_eq_add_of_le' (Nat.pos_of_ne_zero hzero)
    have hj : j < 511 := by omega
    rw [show 1024 - (j + 1) = 510 - j + 513 by omega, sinTable_getElem?_second, sinTable_getElem?_first hj,
      sinArc_getElem?_mirror hj]
  · obtain ⟨j, rfl⟩ := Nat.exists_eq_add_of_le' (Nat.succ_le_of_lt hsecond)
    have hj : j < 511 := by omega
    have hinvolutive : neg32 ∘ neg32 = id := funext neg32_neg32
    rw [show 1024 - (j + 513) = 510 - j + 1 by omega, sinTable_getElem?_first (by omega), sinArc_getElem?_mirror hj,
      sinTable_getElem?_second, Option.map_map, hinvolutive, Option.map_id, id]

/-! ### The instance -/

/-- What the voices of the instance hold after reset, voice by voice. -/
theorem State.reset_voices_map {α : Type} (f : Voice → α) :
    State.reset.voices.map f = (List.range 8).map fun v => f (Voice.reset specInstance (voiceConfigInstance v)) :=
  List.map_map.trans List.map_map

@[simp] theorem Voice.reset_len (c : Config) (p : VoiceConfig) :
    (Voice.reset c p).len = delayLength c (clampFreq c p.resetFreq) := rfl

@[simp] theorem Voice.reset_seed (c : Config) (p : VoiceConfig) : (Voice.reset c p).seed = p.seedReset := rfl

@[simp] theorem Voice.reset_freq (c : Config) (p : VoiceConfig) : (Voice.reset c p).sh.freq = p.resetFreq := rfl

@[simp] theorem voiceConfigInstance_resetFreq (v : Nat) : (voiceConfigInstance v).resetFreq = 0x435C0000#32 := rfl

@[simp] theorem voiceConfigInstance_seedReset (v : Nat) : (voiceConfigInstance v).seedReset = seedResetInstance v := rfl

/-- L_reset(v) of the instance: 48000 / 220.0 Hz, rounded. -/
theorem delayLength_specInstance_220 : delayLength specInstance (clampFreq specInstance 0x435C0000#32) = 218 := by
  decide +kernel

/-- SEED_RESET(v) of the instance (00_scope.md R8 P25), v = 0 to 7. -/
theorem seedResetInstance_range :
    (List.range 8).map seedResetInstance =
      [0x2545F491#32, 0xC37D6E4A#32, 0x61B4E803#32, 0xFFEC61BC#32, 0x9E23DB75#32, 0x3C5B552E#32, 0xDA92CEE7#32,
        0x78CA48A0#32] := by
  decide +kernel

/-- The four waveforms at phase 0, where RESET puts every LFO: 0, -1.0, -1.0, and the table's entry 256. -/
theorem waveforms_specInstance_zero :
    sinOut specInstance 0#32 = 0#32 ∧ tri 0#32 = 0xBF800000#32 ∧ saw 0#32 = 0xBF800000#32 ∧
      cosOut specInstance 0#32 = 0x3F800000#32 := by
  decide +kernel

/-- Settles O26: the voices of the instance differ in their seeds only, and the table's symmetries are those of the half
wave. -/
theorem instanceResetReadbacks : Obligations.InstanceResetReadbacks := by
  obtain ⟨hsin, htri, hsaw, hcos⟩ := waveforms_specInstance_zero
  refine ⟨rfl, ?len, ?seed, ?freq, hsin, htri, hsaw, hcos, sinTable_length, sinTable_printed_entries, ?odd,
    fun k hk => sinTable_mirror hk⟩
  case len =>
    simp only [State.reset_voices_map, Voice.reset_len, voiceConfigInstance_resetFreq, delayLength_specInstance_220,
      List.map_const', List.length_range]
  case seed =>
    simpa only [State.reset_voices_map, Voice.reset_seed, voiceConfigInstance_seedReset] using seedResetInstance_range
  case freq =>
    simp only [State.reset_voices_map, Voice.reset_freq, voiceConfigInstance_resetFreq, List.map_const',
      List.length_range]
  case odd =>
    intro k hk hzero hmiddle
    rw [← funext neg32_eq_xor]
    exact sinTable_odd hk hzero hmiddle

end Sys2Proof.Machine
end
